-- ==== Sys2Proof/Word.lean ====
section
/-! DEFINITION. The two word types of the core: bytes and 16-bit words (R4, R6). -/

namespace Sys2Proof

/-- A byte: every 8-bit register, every memory location, every instruction byte (R4, R70). -/
abbrev Byte := BitVec 8

/-- A 16-bit word: SP, PC, the register pairs and every address (R4, R31, R70). -/
abbrev Word := BitVec 16

end Sys2Proof
end

