-- ==== Sys2Proof/Config.lean ====
section
/-! DEFINITION. The parameters the spec leaves to the environment (R5, spec/92_eei_decisions.md), and the one free value of the model: what an ENV bus answers. -/

namespace Sys2Proof

/-- One transaction on the bus (R72): a read with the byte that was answered, or a write. -/
inductive BusAccess where
  | read  (addr : Word) (v : Byte)
  | write (addr : Word) (v : Byte)
  deriving DecidableEq, Repr

/-- Parameter `BUS` (R71, D4): `flat` is a 65,536-byte array; `env n` is the environment oracle number `n`. -/
inductive BusKind where
  | flat
  | env (n : Nat)
  deriving DecidableEq, Repr

/-- Parameter `ACC_ROT_Z` (R320, D6): what RLCA, RRCA, RLA and RRA do to Z. -/
inductive AccRotZ where
  | preserve
  | clear
  deriving DecidableEq, Repr

/-- Parameter `HALT_BUG_IRQ_RETURN` (R407, D14): the return address pushed when an interrupt is serviced with the halt-bug latch set. -/
inductive HaltBugIrqReturn where
  | pcMinus1
  | pc
  deriving DecidableEq, Repr

/-- The parameters of one machine. They are part of `State` so that every statement about all states holds for all their
values; no step changes them. -/
structure Params where
  accRotZ          : AccRotZ
  haltBugIrqReturn : HaltBugIrqReturn
  bus              : BusKind
  deriving DecidableEq, Repr

/-- The values the spec itself uses (R5; D4, D6, D14). -/
def Params.spec : Params :=
  { accRotZ := .preserve, haltBugIrqReturn := .pcMinus1, bus := .flat }

/-- FREE VALUE. The byte an ENV bus answers to a read of `addr`: "It answers each read with any byte" (R71). It may depend
on which environment it is, on the time (the cycles spent so far) and on every access made before. DESIGN CHOICE, log 3. -/
opaque Config.envRead (env cycles : Nat) (history : List BusAccess) (addr : Word) : Byte

end Sys2Proof
end

