-- ==== Sys2Proof/Machine/Bits.lean ====
section
/-! DEFINITION. The bit-field, byte-order and sign-extension helpers of the spec's notation (R6, R7). -/

namespace Sys2Proof.Machine

/-- `hi(w) = w[15:8]` (R7). -/
def hi (w : Word) : Byte := BitVec.ofNat 8 (w.toNat / 256)

/-- `lo(w) = w[7:0]` (R7). -/
def lo (w : Word) : Byte := BitVec.ofNat 8 w.toNat

/-- `cat(hi, lo) = hi * 256 + lo` (R7). -/
def cat (h l : Byte) : Word := BitVec.ofNat 16 (h.toNat * 256 + l.toNat)

/-- `v[i]`, bit i of a byte, bit 0 the least significant (R6). -/
def bit (v : Byte) (i : Nat) : Bool := v.getLsbD i

/-- `zext_16(b)` (R7). -/
def zext16 (b : Byte) : Word := BitVec.ofNat 16 b.toNat

/-- `sext_16(b) = b` if b[7] = 0, else `b + 0xFF00` (R7). -/
def sext16 (b : Byte) : Word :=
  if bit b 7 then BitVec.ofNat 16 (b.toNat + 0xFF00) else BitVec.ofNat 16 b.toNat

/-- A bit as the number 0 or 1. -/
def bitNat (b : Bool) : Nat := if b then 1 else 0

end Sys2Proof.Machine
end

