-- ==== Sys2Proof/Machine/Memory.lean ====
section
/-! DEFINITION. The memory behind the bus (R70, R71): a list of (address, byte) pairs in one canonical form. -/

namespace Sys2Proof.Machine

/-- The 65,536 bytes behind the bus, as the list of those that differ from `unlistedByte`, addresses rising. -/
abbrev Memory := List Host.Cell

/-- What an address that is not listed reads as: the initial content of the array, which R71 and D26 leave to the embedder.
DESIGN CHOICE 0x00, log 2. -/
def unlistedByte : Byte := 0x00

/-- The canonical form from address `from` on: addresses rise strictly and stay below 65,536, and no listed byte is
`unlistedByte`. -/
def Memory.wfFrom (start : Nat) : Memory → Bool
  | [] => true
  | (k, v) :: m => decide (start ≤ k) && decide (k < 65536) && decide (v ≠ unlistedByte) && Memory.wfFrom (k + 1) m

/-- The canonical form of memory. -/
def Memory.wf (m : Memory) : Bool := Memory.wfFrom 0 m

/-- The byte at an address (R71). -/
def Memory.read : Memory → Nat → Byte
  | [], _ => unlistedByte
  | (k, v) :: m, a => if k = a then v else Memory.read m a

/-- Memory with nothing listed at `a`. -/
def Memory.erase : Memory → Nat → Memory
  | [], _ => []
  | (k, v) :: m, a => if k = a then Memory.erase m a else (k, v) :: Memory.erase m a

/-- Memory with the entry `(a, v)` put before the first larger address. -/
def Memory.insert : Memory → Nat → Byte → Memory
  | [], a, v => [(a, v)]
  | (k, w) :: m, a, v => if a < k then (a, v) :: (k, w) :: m else (k, w) :: Memory.insert m a v

/-- Memory after `v` is written at `a` (R71); writing `unlistedByte` removes the entry, so equal memories are equal lists. -/
def Memory.write (m : Memory) (a : Nat) (v : Byte) : Memory :=
  if v = unlistedByte then m.erase a else (m.erase a).insert a v

end Sys2Proof.Machine
end

