-- ==== Sys2Proof/Machine/State.lean ====
section
/-! DEFINITION. The state of the machine (R44, with the bus state of R43 and the parameters of R5), why a step can stop, and the state after reset (R45). -/

namespace Sys2Proof.Machine

/-- The interrupt-enable state (R38). -/
inductive Ime where
  | disabled
  | pending
  | enabled
  deriving DecidableEq, Repr

/-- What the collaborator presents at one instruction boundary: the input `irq_pending` (R404), the vector of the source it
would service (R406, R407), and whether it calls `Wake()` there (R414). -/
structure BoundaryInput where
  irqPending : Bool
  vector     : Word
  wake       : Bool
  deriving DecidableEq, Repr

/-- A boundary at which nothing is requested. -/
def BoundaryInput.idle : BoundaryInput :=
  { irqPending := false, vector := 0x0000, wake := false }

/-- The whole state. `a` to `haltBug` are the core state of R44. `mem` is the storage behind the bus (R43, R71). `params` are
the parameters of R5. `inputs` holds what the collaborator presents at this boundary (the head) and the next ones; an
empty list is an idle boundary (log 7). `cycles` sums the costs the steps return (R406, R446; log 6), and `busLog` lists the
bus accesses made, newest first (R72, R78, R79; log 5). -/
structure State where
  a       : Byte
  f       : Byte
  b       : Byte
  c       : Byte
  d       : Byte
  e       : Byte
  h       : Byte
  l       : Byte
  sp      : Word
  pc      : Word
  ime     : Ime
  halted  : Bool
  stopped : Bool
  haltBug : Bool
  mem     : Memory
  params  : Params
  inputs  : List BoundaryInput
  cycles  : Nat
  busLog  : List BusAccess
  deriving DecidableEq, Repr

/-- The two kinds of error of the core (R400). -/
inductive Fault where
  /-- `InvalidOpcode(byte, prefixed)`. Raised by the instruction `invalid`, that is by a step whose first byte is one of the
  11 invalid opcodes (R401). `left` is the state the report leaves, from which the caller may go on: nothing the rule names is
  changed, and the one read of the byte is recorded (R79, log 10). Safe. -/
  | invalidOpcode (byte : Byte) (prefixed : Bool) (left : State)
  /-- `ProgrammingContractViolation`. Raised by `serviceInterrupt` called while IME is not ENABLED (R402, R407). `step` never
  raises it, because it calls `serviceInterrupt` only as R406 says. Safe. -/
  | contractViolation
  deriving DecidableEq, Repr

/-- Why a step is refused. -/
inductive Refusal where
  /-- An instruction without a meaning. Raised by an arm of `exec` that has none; every arm has one. Safe. -/
  | notModelled (mnemonic : String)
  deriving DecidableEq, Repr

/-- The outcome of an instruction or a step. -/
abbrev Out := Host.Outcome State Fault Refusal

/-- Parameter `RESET_REGS` (R5, R45, D18): what the registers without a stated reset value hold at construction. `flags` is the
nibble F[7:4]. -/
structure ResetRegs where
  a     : Byte
  flags : BitVec 4
  b     : Byte
  c     : Byte
  d     : Byte
  e     : Byte
  h     : Byte
  l     : Byte
  sp    : Word
  deriving DecidableEq, Repr

/-- The model's choice of `RESET_REGS`: all zero. DESIGN CHOICE, log 1. -/
def ResetRegs.zero : ResetRegs :=
  { a := 0, flags := 0, b := 0, c := 0, d := 0, e := 0, h := 0, l := 0, sp := 0 }

/-- The core at construction for any `RESET_REGS` and any parameters (R45, R440): PC = 0x0000, IME = DISABLED, the latches 0,
F[3:0] = 0. Memory lists nothing (log 2). -/
def State.constructed (p : Params) (r : ResetRegs) : State :=
  { a := r.a, f := BitVec.ofNat 8 (r.flags.toNat * 16), b := r.b, c := r.c, d := r.d, e := r.e, h := r.h, l := r.l,
    sp := r.sp, pc := 0x0000, ime := .disabled, halted := false, stopped := false, haltBug := false, mem := [],
    params := p, inputs := [], cycles := 0, busLog := [] }

/-- The machine right after reset (R45, R440), with the spec's parameter values and the model's `RESET_REGS`. -/
def State.reset : State := State.constructed Params.spec ResetRegs.zero

/-- The optional profile `DMG_POST_BOOT` (R45, R441), for claims that take it as a named premise. -/
def State.dmgPostBoot : State :=
  { State.reset with
    a := 0x01, f := 0xB0, b := 0x00, c := 0x13, d := 0x00, e := 0xD8, h := 0x01, l := 0x4D, sp := 0xFFFE, pc := 0x0100 }

end Sys2Proof.Machine
end

