-- ==== Sys2Proof/Syntax.lean ====
section
/-! DEFINITION. The abstract syntax: the operand classes of R103 to R108, the instruction type with one constructor per
mnemonic of spec/opcode_table.json, and the operand-indexed families of R102 to R107 by which statements name many
constructors at once. -/

namespace Sys2Proof

/-- The 8-bit register operands of `reg8[i]`, i ≠ 6 (R103). -/
inductive Reg8 where
  | b | c | d | e | h | l | a
  deriving DecidableEq, Repr

/-- An 8-bit operand `reg8[i]` (R103): a register, or the byte at HL (i = 6). -/
inductive Loc8 where
  | reg (r : Reg8)
  | mHL
  deriving DecidableEq, Repr

/-- The register pairs of LD rr,d16, INC rr, DEC rr and ADD HL,rr: `reg16[p]` (R104). -/
inductive Reg16 where
  | bc | de | hl | sp
  deriving DecidableEq, Repr

/-- The register pairs of PUSH and POP: `reg16s[p]` (R105). -/
inductive Reg16S where
  | bc | de | hl | af
  deriving DecidableEq, Repr

/-- The condition codes (R106, R350). -/
inductive Cond where
  | nz | z | nc | c
  deriving DecidableEq, Repr

/-- The ALU operations selected by y (R107). -/
inductive AluOp where
  | add | adc | sub | sbc | and | xor | or | cp
  deriving DecidableEq, Repr

/-- The second operand of an ALU instruction (R230): a register, the byte at HL, or an immediate. -/
inductive AluSrc where
  | reg (r : Reg8)
  | mHL
  | d8 (n : Byte)
  deriving DecidableEq, Repr

/-- The prefixed rotates and shifts selected by y (R107). -/
inductive RotOp where
  | rlc | rrc | rl | rr | sla | sra | swap | srl
  deriving DecidableEq, Repr

/-- The addresses, beside (HL), at which A is loaded and stored (R166 to R169, R174 to R179). -/
inductive IndA where
  | mBC
  | mDE
  | mC
  | ma8 (n : Byte)
  | ma16 (nn : Word)
  deriving DecidableEq, Repr

/-- The post-modified (HL) operands: (HL+) and (HL-) (R170 to R173). -/
inductive PostHL where
  | inc | dec
  deriving DecidableEq, Repr

/-- The accumulator rotates (R320 to R324). -/
inductive AccRot where
  | rlca | rrca | rla | rra
  deriving DecidableEq, Repr

/-- A 3-bit field y: the bit number of BIT, RES and SET, and the RST selector (R107, R108). -/
inductive Sel3 where
  | n0 | n1 | n2 | n3 | n4 | n5 | n6 | n7
  deriving DecidableEq, Repr

/-- The value of the 3-bit field. -/
def Sel3.toNat : Sel3 → Nat
  | .n0 => 0 | .n1 => 1 | .n2 => 2 | .n3 => 3 | .n4 => 4 | .n5 => 5 | .n6 => 6 | .n7 => 7

/-- The field value of a register operand in `reg8` (R103). -/
def Reg8.code : Reg8 → Nat
  | .b => 0 | .c => 1 | .d => 2 | .e => 3 | .h => 4 | .l => 5 | .a => 7

/-- The field value of an 8-bit operand in `reg8`, (HL) being 6 (R103). -/
def Loc8.code : Loc8 → Nat
  | .reg r => r.code
  | .mHL => 6

/-- The field value of a pair in `reg16` (R104). -/
def Reg16.code : Reg16 → Nat
  | .bc => 0 | .de => 1 | .hl => 2 | .sp => 3

/-- The field value of a pair in `reg16s` (R105). -/
def Reg16S.code : Reg16S → Nat
  | .bc => 0 | .de => 1 | .hl => 2 | .af => 3

/-- The field value of a condition (R106). -/
def Cond.code : Cond → Nat
  | .nz => 0 | .z => 1 | .nc => 2 | .c => 3

/-- The field value of an ALU operation (R107). -/
def AluOp.code : AluOp → Nat
  | .add => 0 | .adc => 1 | .sub => 2 | .sbc => 3 | .and => 4 | .xor => 5 | .or => 6 | .cp => 7

/-- The field value of a rotate or shift (R107). -/
def RotOp.code : RotOp → Nat
  | .rlc => 0 | .rrc => 1 | .rl => 2 | .rr => 3 | .sla => 4 | .sra => 5 | .swap => 6 | .srl => 7

/-- The instructions: one constructor for each of the 500 instructions of the opcode map (R117), named after the map's
mnemonic (`m` before an operand in parentheses), and `invalid op` for the 11 invalid rows (R111), which share one
mnemonic of the table. An operand that the opcode byte does not fix is a field: d8, a8, e8, d16, a16, and the ignored
second byte of STOP (R385). -/
inductive Instr where
  | nop
  | ld_BC_d16 (nn : Word)
  | ld_mBC_A
  | inc_BC
  | inc_B
  | dec_B
  | ld_B_d8 (n : Byte)
  | rlca
  | ld_ma16_SP (nn : Word)
  | add_HL_BC
  | ld_A_mBC
  | dec_BC
  | inc_C
  | dec_C
  | ld_C_d8 (n : Byte)
  | rrca
  | stop (n : Byte)
  | ld_DE_d16 (nn : Word)
  | ld_mDE_A
  | inc_DE
  | inc_D
  | dec_D
  | ld_D_d8 (n : Byte)
  | rla
  | jr_e8 (e : Byte)
  | add_HL_DE
  | ld_A_mDE
  | dec_DE
  | inc_E
  | dec_E
  | ld_E_d8 (n : Byte)
  | rra
  | jr_NZ_e8 (e : Byte)
  | ld_HL_d16 (nn : Word)
  | ld_mHLinc_A
  | inc_HL
  | inc_H
  | dec_H
  | ld_H_d8 (n : Byte)
  | daa
  | jr_Z_e8 (e : Byte)
  | add_HL_HL
  | ld_A_mHLinc
  | dec_HL
  | inc_L
  | dec_L
  | ld_L_d8 (n : Byte)
  | cpl
  | jr_NC_e8 (e : Byte)
  | ld_SP_d16 (nn : Word)
  | ld_mHLdec_A
  | inc_SP
  | inc_mHL
  | dec_mHL
  | ld_mHL_d8 (n : Byte)
  | scf
  | jr_C_e8 (e : Byte)
  | add_HL_SP
  | ld_A_mHLdec
  | dec_SP
  | inc_A
  | dec_A
  | ld_A_d8 (n : Byte)
  | ccf
  | ld_B_B
  | ld_B_C
  | ld_B_D
  | ld_B_E
  | ld_B_H
  | ld_B_L
  | ld_B_mHL
  | ld_B_A
  | ld_C_B
  | ld_C_C
  | ld_C_D
  | ld_C_E
  | ld_C_H
  | ld_C_L
  | ld_C_mHL
  | ld_C_A
  | ld_D_B
  | ld_D_C
  | ld_D_D
  | ld_D_E
  | ld_D_H
  | ld_D_L
  | ld_D_mHL
  | ld_D_A
  | ld_E_B
  | ld_E_C
  | ld_E_D
  | ld_E_E
  | ld_E_H
  | ld_E_L
  | ld_E_mHL
  | ld_E_A
  | ld_H_B
  | ld_H_C
  | ld_H_D
  | ld_H_E
  | ld_H_H
  | ld_H_L
  | ld_H_mHL
  | ld_H_A
  | ld_L_B
  | ld_L_C
  | ld_L_D
  | ld_L_E
  | ld_L_H
  | ld_L_L
  | ld_L_mHL
  | ld_L_A
  | ld_mHL_B
  | ld_mHL_C
  | ld_mHL_D
  | ld_mHL_E
  | ld_mHL_H
  | ld_mHL_L
  | halt
  | ld_mHL_A
  | ld_A_B
  | ld_A_C
  | ld_A_D
  | ld_A_E
  | ld_A_H
  | ld_A_L
  | ld_A_mHL
  | ld_A_A
  | add_A_B
  | add_A_C
  | add_A_D
  | add_A_E
  | add_A_H
  | add_A_L
  | add_A_mHL
  | add_A_A
  | adc_A_B
  | adc_A_C
  | adc_A_D
  | adc_A_E
  | adc_A_H
  | adc_A_L
  | adc_A_mHL
  | adc_A_A
  | sub_B
  | sub_C
  | sub_D
  | sub_E
  | sub_H
  | sub_L
  | sub_mHL
  | sub_A
  | sbc_A_B
  | sbc_A_C
  | sbc_A_D
  | sbc_A_E
  | sbc_A_H
  | sbc_A_L
  | sbc_A_mHL
  | sbc_A_A
  | and_B
  | and_C
  | and_D
  | and_E
  | and_H
  | and_L
  | and_mHL
  | and_A
  | xor_B
  | xor_C
  | xor_D
  | xor_E
  | xor_H
  | xor_L
  | xor_mHL
  | xor_A
  | or_B
  | or_C
  | or_D
  | or_E
  | or_H
  | or_L
  | or_mHL
  | or_A
  | cp_B
  | cp_C
  | cp_D
  | cp_E
  | cp_H
  | cp_L
  | cp_mHL
  | cp_A
  | ret_NZ
  | pop_BC
  | jp_NZ_a16 (nn : Word)
  | jp_a16 (nn : Word)
  | call_NZ_a16 (nn : Word)
  | push_BC
  | add_A_d8 (n : Byte)
  | rst_00
  | ret_Z
  | ret
  | jp_Z_a16 (nn : Word)
  | call_Z_a16 (nn : Word)
  | call_a16 (nn : Word)
  | adc_A_d8 (n : Byte)
  | rst_08
  | ret_NC
  | pop_DE
  | jp_NC_a16 (nn : Word)
  | invalid (op : Byte)
  | call_NC_a16 (nn : Word)
  | push_DE
  | sub_d8 (n : Byte)
  | rst_10
  | ret_C
  | reti
  | jp_C_a16 (nn : Word)
  | call_C_a16 (nn : Word)
  | sbc_A_d8 (n : Byte)
  | rst_18
  | ldh_ma8_A (n : Byte)
  | pop_HL
  | ld_mC_A
  | push_HL
  | and_d8 (n : Byte)
  | rst_20
  | add_SP_e8 (e : Byte)
  | jp_HL
  | ld_ma16_A (nn : Word)
  | xor_d8 (n : Byte)
  | rst_28
  | ldh_A_ma8 (n : Byte)
  | pop_AF
  | ld_A_mC
  | di
  | push_AF
  | or_d8 (n : Byte)
  | rst_30
  | ld_HL_SPe8 (e : Byte)
  | ld_SP_HL
  | ld_A_ma16 (nn : Word)
  | ei
  | cp_d8 (n : Byte)
  | rst_38
  | rlc_B
  | rlc_C
  | rlc_D
  | rlc_E
  | rlc_H
  | rlc_L
  | rlc_mHL
  | rlc_A
  | rrc_B
  | rrc_C
  | rrc_D
  | rrc_E
  | rrc_H
  | rrc_L
  | rrc_mHL
  | rrc_A
  | rl_B
  | rl_C
  | rl_D
  | rl_E
  | rl_H
  | rl_L
  | rl_mHL
  | rl_A
  | rr_B
  | rr_C
  | rr_D
  | rr_E
  | rr_H
  | rr_L
  | rr_mHL
  | rr_A
  | sla_B
  | sla_C
  | sla_D
  | sla_E
  | sla_H
  | sla_L
  | sla_mHL
  | sla_A
  | sra_B
  | sra_C
  | sra_D
  | sra_E
  | sra_H
  | sra_L
  | sra_mHL
  | sra_A
  | swap_B
  | swap_C
  | swap_D
  | swap_E
  | swap_H
  | swap_L
  | swap_mHL
  | swap_A
  | srl_B
  | srl_C
  | srl_D
  | srl_E
  | srl_H
  | srl_L
  | srl_mHL
  | srl_A
  | bit_0_B
  | bit_0_C
  | bit_0_D
  | bit_0_E
  | bit_0_H
  | bit_0_L
  | bit_0_mHL
  | bit_0_A
  | bit_1_B
  | bit_1_C
  | bit_1_D
  | bit_1_E
  | bit_1_H
  | bit_1_L
  | bit_1_mHL
  | bit_1_A
  | bit_2_B
  | bit_2_C
  | bit_2_D
  | bit_2_E
  | bit_2_H
  | bit_2_L
  | bit_2_mHL
  | bit_2_A
  | bit_3_B
  | bit_3_C
  | bit_3_D
  | bit_3_E
  | bit_3_H
  | bit_3_L
  | bit_3_mHL
  | bit_3_A
  | bit_4_B
  | bit_4_C
  | bit_4_D
  | bit_4_E
  | bit_4_H
  | bit_4_L
  | bit_4_mHL
  | bit_4_A
  | bit_5_B
  | bit_5_C
  | bit_5_D
  | bit_5_E
  | bit_5_H
  | bit_5_L
  | bit_5_mHL
  | bit_5_A
  | bit_6_B
  | bit_6_C
  | bit_6_D
  | bit_6_E
  | bit_6_H
  | bit_6_L
  | bit_6_mHL
  | bit_6_A
  | bit_7_B
  | bit_7_C
  | bit_7_D
  | bit_7_E
  | bit_7_H
  | bit_7_L
  | bit_7_mHL
  | bit_7_A
  | res_0_B
  | res_0_C
  | res_0_D
  | res_0_E
  | res_0_H
  | res_0_L
  | res_0_mHL
  | res_0_A
  | res_1_B
  | res_1_C
  | res_1_D
  | res_1_E
  | res_1_H
  | res_1_L
  | res_1_mHL
  | res_1_A
  | res_2_B
  | res_2_C
  | res_2_D
  | res_2_E
  | res_2_H
  | res_2_L
  | res_2_mHL
  | res_2_A
  | res_3_B
  | res_3_C
  | res_3_D
  | res_3_E
  | res_3_H
  | res_3_L
  | res_3_mHL
  | res_3_A
  | res_4_B
  | res_4_C
  | res_4_D
  | res_4_E
  | res_4_H
  | res_4_L
  | res_4_mHL
  | res_4_A
  | res_5_B
  | res_5_C
  | res_5_D
  | res_5_E
  | res_5_H
  | res_5_L
  | res_5_mHL
  | res_5_A
  | res_6_B
  | res_6_C
  | res_6_D
  | res_6_E
  | res_6_H
  | res_6_L
  | res_6_mHL
  | res_6_A
  | res_7_B
  | res_7_C
  | res_7_D
  | res_7_E
  | res_7_H
  | res_7_L
  | res_7_mHL
  | res_7_A
  | set_0_B
  | set_0_C
  | set_0_D
  | set_0_E
  | set_0_H
  | set_0_L
  | set_0_mHL
  | set_0_A
  | set_1_B
  | set_1_C
  | set_1_D
  | set_1_E
  | set_1_H
  | set_1_L
  | set_1_mHL
  | set_1_A
  | set_2_B
  | set_2_C
  | set_2_D
  | set_2_E
  | set_2_H
  | set_2_L
  | set_2_mHL
  | set_2_A
  | set_3_B
  | set_3_C
  | set_3_D
  | set_3_E
  | set_3_H
  | set_3_L
  | set_3_mHL
  | set_3_A
  | set_4_B
  | set_4_C
  | set_4_D
  | set_4_E
  | set_4_H
  | set_4_L
  | set_4_mHL
  | set_4_A
  | set_5_B
  | set_5_C
  | set_5_D
  | set_5_E
  | set_5_H
  | set_5_L
  | set_5_mHL
  | set_5_A
  | set_6_B
  | set_6_C
  | set_6_D
  | set_6_E
  | set_6_H
  | set_6_L
  | set_6_mHL
  | set_6_A
  | set_7_B
  | set_7_C
  | set_7_D
  | set_7_E
  | set_7_H
  | set_7_L
  | set_7_mHL
  | set_7_A
  deriving DecidableEq, Repr

/-- LD r,r' (R161): opcode 0x40 + 8·y + z. -/
def Instr.ldRR : Reg8 → Reg8 → Instr
  | .b, .b => .ld_B_B
  | .b, .c => .ld_B_C
  | .b, .d => .ld_B_D
  | .b, .e => .ld_B_E
  | .b, .h => .ld_B_H
  | .b, .l => .ld_B_L
  | .b, .a => .ld_B_A
  | .c, .b => .ld_C_B
  | .c, .c => .ld_C_C
  | .c, .d => .ld_C_D
  | .c, .e => .ld_C_E
  | .c, .h => .ld_C_H
  | .c, .l => .ld_C_L
  | .c, .a => .ld_C_A
  | .d, .b => .ld_D_B
  | .d, .c => .ld_D_C
  | .d, .d => .ld_D_D
  | .d, .e => .ld_D_E
  | .d, .h => .ld_D_H
  | .d, .l => .ld_D_L
  | .d, .a => .ld_D_A
  | .e, .b => .ld_E_B
  | .e, .c => .ld_E_C
  | .e, .d => .ld_E_D
  | .e, .e => .ld_E_E
  | .e, .h => .ld_E_H
  | .e, .l => .ld_E_L
  | .e, .a => .ld_E_A
  | .h, .b => .ld_H_B
  | .h, .c => .ld_H_C
  | .h, .d => .ld_H_D
  | .h, .e => .ld_H_E
  | .h, .h => .ld_H_H
  | .h, .l => .ld_H_L
  | .h, .a => .ld_H_A
  | .l, .b => .ld_L_B
  | .l, .c => .ld_L_C
  | .l, .d => .ld_L_D
  | .l, .e => .ld_L_E
  | .l, .h => .ld_L_H
  | .l, .l => .ld_L_L
  | .l, .a => .ld_L_A
  | .a, .b => .ld_A_B
  | .a, .c => .ld_A_C
  | .a, .d => .ld_A_D
  | .a, .e => .ld_A_E
  | .a, .h => .ld_A_H
  | .a, .l => .ld_A_L
  | .a, .a => .ld_A_A

/-- LD r,d8 (R162). -/
def Instr.ldRI : Reg8 → Byte → Instr
  | .b, n => .ld_B_d8 n
  | .c, n => .ld_C_d8 n
  | .d, n => .ld_D_d8 n
  | .e, n => .ld_E_d8 n
  | .h, n => .ld_H_d8 n
  | .l, n => .ld_L_d8 n
  | .a, n => .ld_A_d8 n

/-- LD r,(HL) (R163). -/
def Instr.ldRM : Reg8 → Instr
  | .b => .ld_B_mHL
  | .c => .ld_C_mHL
  | .d => .ld_D_mHL
  | .e => .ld_E_mHL
  | .h => .ld_H_mHL
  | .l => .ld_L_mHL
  | .a => .ld_A_mHL

/-- LD (HL),r (R164). -/
def Instr.ldMR : Reg8 → Instr
  | .b => .ld_mHL_B
  | .c => .ld_mHL_C
  | .d => .ld_mHL_D
  | .e => .ld_mHL_E
  | .h => .ld_mHL_H
  | .l => .ld_mHL_L
  | .a => .ld_mHL_A

/-- The loads of A (R166, R167, R174, R176, R178). -/
def Instr.ldAInd : IndA → Instr
  | .mBC => .ld_A_mBC
  | .mDE => .ld_A_mDE
  | .mC => .ld_A_mC
  | .ma8 n => .ldh_A_ma8 n
  | .ma16 nn => .ld_A_ma16 nn

/-- The stores of A (R168, R169, R175, R177, R179). -/
def Instr.stAInd : IndA → Instr
  | .mBC => .ld_mBC_A
  | .mDE => .ld_mDE_A
  | .mC => .ld_mC_A
  | .ma8 n => .ldh_ma8_A n
  | .ma16 nn => .ld_ma16_A nn

/-- LD A,(HL+) and LD A,(HL-) (R170, R171). -/
def Instr.ldAPost : PostHL → Instr
  | .inc => .ld_A_mHLinc
  | .dec => .ld_A_mHLdec

/-- LD (HL+),A and LD (HL-),A (R172, R173). -/
def Instr.stAPost : PostHL → Instr
  | .inc => .ld_mHLinc_A
  | .dec => .ld_mHLdec_A

/-- RLCA, RRCA, RLA and RRA (R321 to R324). -/
def Instr.rotA : AccRot → Instr
  | .rlca => .rlca
  | .rrca => .rrca
  | .rla => .rla
  | .rra => .rra

/-- LD rr,d16 (R203). -/
def Instr.ldRRI : Reg16 → Word → Instr
  | .bc, nn => .ld_BC_d16 nn
  | .de, nn => .ld_DE_d16 nn
  | .hl, nn => .ld_HL_d16 nn
  | .sp, nn => .ld_SP_d16 nn

/-- PUSH rr (R207). -/
def Instr.push : Reg16S → Instr
  | .bc => .push_BC
  | .de => .push_DE
  | .hl => .push_HL
  | .af => .push_AF

/-- POP rr and POP AF (R208, R209). -/
def Instr.pop : Reg16S → Instr
  | .bc => .pop_BC
  | .de => .pop_DE
  | .hl => .pop_HL
  | .af => .pop_AF

/-- The ALU instructions on A (R230 to R245, R281 to R289). -/
def Instr.alu : AluOp → AluSrc → Instr
  | .add, .reg .b => .add_A_B
  | .add, .reg .c => .add_A_C
  | .add, .reg .d => .add_A_D
  | .add, .reg .e => .add_A_E
  | .add, .reg .h => .add_A_H
  | .add, .reg .l => .add_A_L
  | .add, .reg .a => .add_A_A
  | .add, .mHL => .add_A_mHL
  | .add, .d8 n => .add_A_d8 n
  | .adc, .reg .b => .adc_A_B
  | .adc, .reg .c => .adc_A_C
  | .adc, .reg .d => .adc_A_D
  | .adc, .reg .e => .adc_A_E
  | .adc, .reg .h => .adc_A_H
  | .adc, .reg .l => .adc_A_L
  | .adc, .reg .a => .adc_A_A
  | .adc, .mHL => .adc_A_mHL
  | .adc, .d8 n => .adc_A_d8 n
  | .sub, .reg .b => .sub_B
  | .sub, .reg .c => .sub_C
  | .sub, .reg .d => .sub_D
  | .sub, .reg .e => .sub_E
  | .sub, .reg .h => .sub_H
  | .sub, .reg .l => .sub_L
  | .sub, .reg .a => .sub_A
  | .sub, .mHL => .sub_mHL
  | .sub, .d8 n => .sub_d8 n
  | .sbc, .reg .b => .sbc_A_B
  | .sbc, .reg .c => .sbc_A_C
  | .sbc, .reg .d => .sbc_A_D
  | .sbc, .reg .e => .sbc_A_E
  | .sbc, .reg .h => .sbc_A_H
  | .sbc, .reg .l => .sbc_A_L
  | .sbc, .reg .a => .sbc_A_A
  | .sbc, .mHL => .sbc_A_mHL
  | .sbc, .d8 n => .sbc_A_d8 n
  | .and, .reg .b => .and_B
  | .and, .reg .c => .and_C
  | .and, .reg .d => .and_D
  | .and, .reg .e => .and_E
  | .and, .reg .h => .and_H
  | .and, .reg .l => .and_L
  | .and, .reg .a => .and_A
  | .and, .mHL => .and_mHL
  | .and, .d8 n => .and_d8 n
  | .xor, .reg .b => .xor_B
  | .xor, .reg .c => .xor_C
  | .xor, .reg .d => .xor_D
  | .xor, .reg .e => .xor_E
  | .xor, .reg .h => .xor_H
  | .xor, .reg .l => .xor_L
  | .xor, .reg .a => .xor_A
  | .xor, .mHL => .xor_mHL
  | .xor, .d8 n => .xor_d8 n
  | .or, .reg .b => .or_B
  | .or, .reg .c => .or_C
  | .or, .reg .d => .or_D
  | .or, .reg .e => .or_E
  | .or, .reg .h => .or_H
  | .or, .reg .l => .or_L
  | .or, .reg .a => .or_A
  | .or, .mHL => .or_mHL
  | .or, .d8 n => .or_d8 n
  | .cp, .reg .b => .cp_B
  | .cp, .reg .c => .cp_C
  | .cp, .reg .d => .cp_D
  | .cp, .reg .e => .cp_E
  | .cp, .reg .h => .cp_H
  | .cp, .reg .l => .cp_L
  | .cp, .reg .a => .cp_A
  | .cp, .mHL => .cp_mHL
  | .cp, .d8 n => .cp_d8 n

/-- INC r and INC (HL) (R246, R247). -/
def Instr.inc8 : Loc8 → Instr
  | .reg .b => .inc_B
  | .reg .c => .inc_C
  | .reg .d => .inc_D
  | .reg .e => .inc_E
  | .reg .h => .inc_H
  | .reg .l => .inc_L
  | .reg .a => .inc_A
  | .mHL => .inc_mHL

/-- DEC r and DEC (HL) (R248, R249). -/
def Instr.dec8 : Loc8 → Instr
  | .reg .b => .dec_B
  | .reg .c => .dec_C
  | .reg .d => .dec_D
  | .reg .e => .dec_E
  | .reg .h => .dec_H
  | .reg .l => .dec_L
  | .reg .a => .dec_A
  | .mHL => .dec_mHL

/-- INC rr (R262). -/
def Instr.inc16 : Reg16 → Instr
  | .bc => .inc_BC
  | .de => .inc_DE
  | .hl => .inc_HL
  | .sp => .inc_SP

/-- DEC rr (R263). -/
def Instr.dec16 : Reg16 → Instr
  | .bc => .dec_BC
  | .de => .dec_DE
  | .hl => .dec_HL
  | .sp => .dec_SP

/-- ADD HL,rr (R261). -/
def Instr.addHL : Reg16 → Instr
  | .bc => .add_HL_BC
  | .de => .add_HL_DE
  | .hl => .add_HL_HL
  | .sp => .add_HL_SP

/-- The prefixed rotates and shifts (R325 to R340): opcode 0xCB, 8·y + z. -/
def Instr.rot : RotOp → Loc8 → Instr
  | .rlc, .reg .b => .rlc_B
  | .rlc, .reg .c => .rlc_C
  | .rlc, .reg .d => .rlc_D
  | .rlc, .reg .e => .rlc_E
  | .rlc, .reg .h => .rlc_H
  | .rlc, .reg .l => .rlc_L
  | .rlc, .reg .a => .rlc_A
  | .rlc, .mHL => .rlc_mHL
  | .rrc, .reg .b => .rrc_B
  | .rrc, .reg .c => .rrc_C
  | .rrc, .reg .d => .rrc_D
  | .rrc, .reg .e => .rrc_E
  | .rrc, .reg .h => .rrc_H
  | .rrc, .reg .l => .rrc_L
  | .rrc, .reg .a => .rrc_A
  | .rrc, .mHL => .rrc_mHL
  | .rl, .reg .b => .rl_B
  | .rl, .reg .c => .rl_C
  | .rl, .reg .d => .rl_D
  | .rl, .reg .e => .rl_E
  | .rl, .reg .h => .rl_H
  | .rl, .reg .l => .rl_L
  | .rl, .reg .a => .rl_A
  | .rl, .mHL => .rl_mHL
  | .rr, .reg .b => .rr_B
  | .rr, .reg .c => .rr_C
  | .rr, .reg .d => .rr_D
  | .rr, .reg .e => .rr_E
  | .rr, .reg .h => .rr_H
  | .rr, .reg .l => .rr_L
  | .rr, .reg .a => .rr_A
  | .rr, .mHL => .rr_mHL
  | .sla, .reg .b => .sla_B
  | .sla, .reg .c => .sla_C
  | .sla, .reg .d => .sla_D
  | .sla, .reg .e => .sla_E
  | .sla, .reg .h => .sla_H
  | .sla, .reg .l => .sla_L
  | .sla, .reg .a => .sla_A
  | .sla, .mHL => .sla_mHL
  | .sra, .reg .b => .sra_B
  | .sra, .reg .c => .sra_C
  | .sra, .reg .d => .sra_D
  | .sra, .reg .e => .sra_E
  | .sra, .reg .h => .sra_H
  | .sra, .reg .l => .sra_L
  | .sra, .reg .a => .sra_A
  | .sra, .mHL => .sra_mHL
  | .swap, .reg .b => .swap_B
  | .swap, .reg .c => .swap_C
  | .swap, .reg .d => .swap_D
  | .swap, .reg .e => .swap_E
  | .swap, .reg .h => .swap_H
  | .swap, .reg .l => .swap_L
  | .swap, .reg .a => .swap_A
  | .swap, .mHL => .swap_mHL
  | .srl, .reg .b => .srl_B
  | .srl, .reg .c => .srl_C
  | .srl, .reg .d => .srl_D
  | .srl, .reg .e => .srl_E
  | .srl, .reg .h => .srl_H
  | .srl, .reg .l => .srl_L
  | .srl, .reg .a => .srl_A
  | .srl, .mHL => .srl_mHL

/-- BIT b,r and BIT b,(HL) (R301, R302). -/
def Instr.bit : Sel3 → Loc8 → Instr
  | .n0, .reg .b => .bit_0_B
  | .n0, .reg .c => .bit_0_C
  | .n0, .reg .d => .bit_0_D
  | .n0, .reg .e => .bit_0_E
  | .n0, .reg .h => .bit_0_H
  | .n0, .reg .l => .bit_0_L
  | .n0, .reg .a => .bit_0_A
  | .n0, .mHL => .bit_0_mHL
  | .n1, .reg .b => .bit_1_B
  | .n1, .reg .c => .bit_1_C
  | .n1, .reg .d => .bit_1_D
  | .n1, .reg .e => .bit_1_E
  | .n1, .reg .h => .bit_1_H
  | .n1, .reg .l => .bit_1_L
  | .n1, .reg .a => .bit_1_A
  | .n1, .mHL => .bit_1_mHL
  | .n2, .reg .b => .bit_2_B
  | .n2, .reg .c => .bit_2_C
  | .n2, .reg .d => .bit_2_D
  | .n2, .reg .e => .bit_2_E
  | .n2, .reg .h => .bit_2_H
  | .n2, .reg .l => .bit_2_L
  | .n2, .reg .a => .bit_2_A
  | .n2, .mHL => .bit_2_mHL
  | .n3, .reg .b => .bit_3_B
  | .n3, .reg .c => .bit_3_C
  | .n3, .reg .d => .bit_3_D
  | .n3, .reg .e => .bit_3_E
  | .n3, .reg .h => .bit_3_H
  | .n3, .reg .l => .bit_3_L
  | .n3, .reg .a => .bit_3_A
  | .n3, .mHL => .bit_3_mHL
  | .n4, .reg .b => .bit_4_B
  | .n4, .reg .c => .bit_4_C
  | .n4, .reg .d => .bit_4_D
  | .n4, .reg .e => .bit_4_E
  | .n4, .reg .h => .bit_4_H
  | .n4, .reg .l => .bit_4_L
  | .n4, .reg .a => .bit_4_A
  | .n4, .mHL => .bit_4_mHL
  | .n5, .reg .b => .bit_5_B
  | .n5, .reg .c => .bit_5_C
  | .n5, .reg .d => .bit_5_D
  | .n5, .reg .e => .bit_5_E
  | .n5, .reg .h => .bit_5_H
  | .n5, .reg .l => .bit_5_L
  | .n5, .reg .a => .bit_5_A
  | .n5, .mHL => .bit_5_mHL
  | .n6, .reg .b => .bit_6_B
  | .n6, .reg .c => .bit_6_C
  | .n6, .reg .d => .bit_6_D
  | .n6, .reg .e => .bit_6_E
  | .n6, .reg .h => .bit_6_H
  | .n6, .reg .l => .bit_6_L
  | .n6, .reg .a => .bit_6_A
  | .n6, .mHL => .bit_6_mHL
  | .n7, .reg .b => .bit_7_B
  | .n7, .reg .c => .bit_7_C
  | .n7, .reg .d => .bit_7_D
  | .n7, .reg .e => .bit_7_E
  | .n7, .reg .h => .bit_7_H
  | .n7, .reg .l => .bit_7_L
  | .n7, .reg .a => .bit_7_A
  | .n7, .mHL => .bit_7_mHL

/-- RES b,r and RES b,(HL) (R303, R304). -/
def Instr.res : Sel3 → Loc8 → Instr
  | .n0, .reg .b => .res_0_B
  | .n0, .reg .c => .res_0_C
  | .n0, .reg .d => .res_0_D
  | .n0, .reg .e => .res_0_E
  | .n0, .reg .h => .res_0_H
  | .n0, .reg .l => .res_0_L
  | .n0, .reg .a => .res_0_A
  | .n0, .mHL => .res_0_mHL
  | .n1, .reg .b => .res_1_B
  | .n1, .reg .c => .res_1_C
  | .n1, .reg .d => .res_1_D
  | .n1, .reg .e => .res_1_E
  | .n1, .reg .h => .res_1_H
  | .n1, .reg .l => .res_1_L
  | .n1, .reg .a => .res_1_A
  | .n1, .mHL => .res_1_mHL
  | .n2, .reg .b => .res_2_B
  | .n2, .reg .c => .res_2_C
  | .n2, .reg .d => .res_2_D
  | .n2, .reg .e => .res_2_E
  | .n2, .reg .h => .res_2_H
  | .n2, .reg .l => .res_2_L
  | .n2, .reg .a => .res_2_A
  | .n2, .mHL => .res_2_mHL
  | .n3, .reg .b => .res_3_B
  | .n3, .reg .c => .res_3_C
  | .n3, .reg .d => .res_3_D
  | .n3, .reg .e => .res_3_E
  | .n3, .reg .h => .res_3_H
  | .n3, .reg .l => .res_3_L
  | .n3, .reg .a => .res_3_A
  | .n3, .mHL => .res_3_mHL
  | .n4, .reg .b => .res_4_B
  | .n4, .reg .c => .res_4_C
  | .n4, .reg .d => .res_4_D
  | .n4, .reg .e => .res_4_E
  | .n4, .reg .h => .res_4_H
  | .n4, .reg .l => .res_4_L
  | .n4, .reg .a => .res_4_A
  | .n4, .mHL => .res_4_mHL
  | .n5, .reg .b => .res_5_B
  | .n5, .reg .c => .res_5_C
  | .n5, .reg .d => .res_5_D
  | .n5, .reg .e => .res_5_E
  | .n5, .reg .h => .res_5_H
  | .n5, .reg .l => .res_5_L
  | .n5, .reg .a => .res_5_A
  | .n5, .mHL => .res_5_mHL
  | .n6, .reg .b => .res_6_B
  | .n6, .reg .c => .res_6_C
  | .n6, .reg .d => .res_6_D
  | .n6, .reg .e => .res_6_E
  | .n6, .reg .h => .res_6_H
  | .n6, .reg .l => .res_6_L
  | .n6, .reg .a => .res_6_A
  | .n6, .mHL => .res_6_mHL
  | .n7, .reg .b => .res_7_B
  | .n7, .reg .c => .res_7_C
  | .n7, .reg .d => .res_7_D
  | .n7, .reg .e => .res_7_E
  | .n7, .reg .h => .res_7_H
  | .n7, .reg .l => .res_7_L
  | .n7, .reg .a => .res_7_A
  | .n7, .mHL => .res_7_mHL

/-- SET b,r and SET b,(HL) (R305, R306). -/
def Instr.set : Sel3 → Loc8 → Instr
  | .n0, .reg .b => .set_0_B
  | .n0, .reg .c => .set_0_C
  | .n0, .reg .d => .set_0_D
  | .n0, .reg .e => .set_0_E
  | .n0, .reg .h => .set_0_H
  | .n0, .reg .l => .set_0_L
  | .n0, .reg .a => .set_0_A
  | .n0, .mHL => .set_0_mHL
  | .n1, .reg .b => .set_1_B
  | .n1, .reg .c => .set_1_C
  | .n1, .reg .d => .set_1_D
  | .n1, .reg .e => .set_1_E
  | .n1, .reg .h => .set_1_H
  | .n1, .reg .l => .set_1_L
  | .n1, .reg .a => .set_1_A
  | .n1, .mHL => .set_1_mHL
  | .n2, .reg .b => .set_2_B
  | .n2, .reg .c => .set_2_C
  | .n2, .reg .d => .set_2_D
  | .n2, .reg .e => .set_2_E
  | .n2, .reg .h => .set_2_H
  | .n2, .reg .l => .set_2_L
  | .n2, .reg .a => .set_2_A
  | .n2, .mHL => .set_2_mHL
  | .n3, .reg .b => .set_3_B
  | .n3, .reg .c => .set_3_C
  | .n3, .reg .d => .set_3_D
  | .n3, .reg .e => .set_3_E
  | .n3, .reg .h => .set_3_H
  | .n3, .reg .l => .set_3_L
  | .n3, .reg .a => .set_3_A
  | .n3, .mHL => .set_3_mHL
  | .n4, .reg .b => .set_4_B
  | .n4, .reg .c => .set_4_C
  | .n4, .reg .d => .set_4_D
  | .n4, .reg .e => .set_4_E
  | .n4, .reg .h => .set_4_H
  | .n4, .reg .l => .set_4_L
  | .n4, .reg .a => .set_4_A
  | .n4, .mHL => .set_4_mHL
  | .n5, .reg .b => .set_5_B
  | .n5, .reg .c => .set_5_C
  | .n5, .reg .d => .set_5_D
  | .n5, .reg .e => .set_5_E
  | .n5, .reg .h => .set_5_H
  | .n5, .reg .l => .set_5_L
  | .n5, .reg .a => .set_5_A
  | .n5, .mHL => .set_5_mHL
  | .n6, .reg .b => .set_6_B
  | .n6, .reg .c => .set_6_C
  | .n6, .reg .d => .set_6_D
  | .n6, .reg .e => .set_6_E
  | .n6, .reg .h => .set_6_H
  | .n6, .reg .l => .set_6_L
  | .n6, .reg .a => .set_6_A
  | .n6, .mHL => .set_6_mHL
  | .n7, .reg .b => .set_7_B
  | .n7, .reg .c => .set_7_C
  | .n7, .reg .d => .set_7_D
  | .n7, .reg .e => .set_7_E
  | .n7, .reg .h => .set_7_H
  | .n7, .reg .l => .set_7_L
  | .n7, .reg .a => .set_7_A
  | .n7, .mHL => .set_7_mHL

/-- JP cc,a16 (R355). -/
def Instr.jpCC : Cond → Word → Instr
  | .nz, nn => .jp_NZ_a16 nn
  | .z, nn => .jp_Z_a16 nn
  | .nc, nn => .jp_NC_a16 nn
  | .c, nn => .jp_C_a16 nn

/-- JR cc,e8 (R358). -/
def Instr.jrCC : Cond → Byte → Instr
  | .nz, e => .jr_NZ_e8 e
  | .z, e => .jr_Z_e8 e
  | .nc, e => .jr_NC_e8 e
  | .c, e => .jr_C_e8 e

/-- CALL cc,a16 (R360). -/
def Instr.callCC : Cond → Word → Instr
  | .nz, nn => .call_NZ_a16 nn
  | .z, nn => .call_Z_a16 nn
  | .nc, nn => .call_NC_a16 nn
  | .c, nn => .call_C_a16 nn

/-- RET cc (R362). -/
def Instr.retCC : Cond → Instr
  | .nz => .ret_NZ
  | .z => .ret_Z
  | .nc => .ret_NC
  | .c => .ret_C

/-- RST t, t = 8·y (R363). -/
def Instr.rst : Sel3 → Instr
  | .n0 => .rst_00
  | .n1 => .rst_08
  | .n2 => .rst_10
  | .n3 => .rst_18
  | .n4 => .rst_20
  | .n5 => .rst_28
  | .n6 => .rst_30
  | .n7 => .rst_38

end Sys2Proof
end

