-- ==== Sys2Proof/Machine/Ops.lean ====
section
/-! DEFINITION. The named operations over registers, the bus, PC and the stack, the entry into an interrupt and the return
from it, Wake, and the end of a step. -/

namespace Sys2Proof.Machine

open Host (Outcome)

/-! ### Registers -/

/-- Every read of F returns F[3:0] = 0 (R32). -/
def State.readF (s : State) : Byte := s.f &&& 0xF0

/-- Every write of F stores `v & 0xF0` (R32). -/
def State.writeF (s : State) (v : Byte) : State := { s with f := v &&& 0xF0 }

/-- The pair BC (R31). -/
def State.bc (s : State) : Word := cat s.b s.c

/-- The pair DE (R31). -/
def State.de (s : State) : Word := cat s.d s.e

/-- The pair HL (R31). -/
def State.hl (s : State) : Word := cat s.h s.l

/-- The pair AF (R31). -/
def State.af (s : State) : Word := cat s.a s.readF

/-- `BC <- w` (R31). -/
def State.setBC (s : State) (w : Word) : State := { s with b := hi w, c := lo w }

/-- `DE <- w` (R31). -/
def State.setDE (s : State) (w : Word) : State := { s with d := hi w, e := lo w }

/-- `HL <- w` (R31). -/
def State.setHL (s : State) (w : Word) : State := { s with h := hi w, l := lo w }

/-- `AF <- w`: A gets `hi(w)` and F gets `lo(w) & 0xF0` (R31). -/
def State.setAF (s : State) (w : Word) : State := { s with a := hi w }.writeF (lo w)

/-- Read of an 8-bit register operand (R103). -/
def State.get8 (s : State) : Reg8 → Byte
  | .b => s.b | .c => s.c | .d => s.d | .e => s.e | .h => s.h | .l => s.l | .a => s.a

/-- Write of an 8-bit register operand; the other half of its pair keeps its value (R31, R103). -/
def State.set8 (s : State) (r : Reg8) (v : Byte) : State :=
  match r with
  | .b => { s with b := v } | .c => { s with c := v } | .d => { s with d := v } | .e => { s with e := v }
  | .h => { s with h := v } | .l => { s with l := v } | .a => { s with a := v }

/-- Read of `reg16[p]` (R104). -/
def State.get16 (s : State) : Reg16 → Word
  | .bc => s.bc | .de => s.de | .hl => s.hl | .sp => s.sp

/-- Write of `reg16[p]` (R104). -/
def State.set16 (s : State) (r : Reg16) (w : Word) : State :=
  match r with
  | .bc => s.setBC w | .de => s.setDE w | .hl => s.setHL w | .sp => { s with sp := w }

/-- Read of `reg16s[p]` (R105). -/
def State.get16s (s : State) : Reg16S → Word
  | .bc => s.bc | .de => s.de | .hl => s.hl | .af => s.af

/-- Write of `reg16s[p]` (R105); AF keeps F[3:0] = 0 (R32). -/
def State.set16s (s : State) (r : Reg16S) (w : Word) : State :=
  match r with
  | .bc => s.setBC w | .de => s.setDE w | .hl => s.setHL w | .af => s.setAF w

/-! ### The bus -/

/-- What the bus answers to a read now (R71): FLAT gives the byte last written or the initial content, ENV any byte. -/
def State.busValue (s : State) (addr : Word) : Byte :=
  match s.params.bus with
  | .flat => s.mem.read addr.toNat
  | .env n => Config.envRead n s.cycles s.busLog addr

/-- The state with one more access recorded. -/
def State.logAccess (s : State) (x : BusAccess) : State := { s with busLog := x :: s.busLog }

/-- `MemRead(addr, 1)`: one bus read (R72). The byte, and the state with the access recorded. -/
def State.busRead (s : State) (addr : Word) : Byte × State :=
  (s.busValue addr, s.logAccess (.read addr (s.busValue addr)))

/-- `MemWrite(addr, 1, v)`: one bus write (R72), recorded; the list `mem` keeps it (log 4 for an ENV bus). -/
def State.busWrite (s : State) (addr : Word) (v : Byte) : State :=
  { s with mem := s.mem.write addr.toNat v, busLog := .write addr v :: s.busLog }

/-! ### PC and costs -/

/-- `NextPC(len) = u16(PC + len - hb0)` (R113), with `hb0` the halt-bug latch at the start of the step. -/
def State.nextPC (s : State) (len : Nat) : Word :=
  s.pc + BitVec.ofNat 16 len - BitVec.ofNat 16 (bitNat s.haltBug)

/-- The one write of PC that every instruction does (R34). With it the halt-bug latch of the start of the step is cleared:
R109 clears it once the first byte is decoded to a valid instruction, and nothing between reads it but NextPC (log 12). -/
def State.writePC (s : State) (target : Word) : State := { s with pc := target, haltBug := false }

/-- `PC <- NextPC(len)`. -/
def State.advance (s : State) (len : Nat) : State := s.writePC (s.nextPC len)

/-- The cost of what the step did, in M-cycles, added to the running sum (R406, R446). -/
def State.spend (s : State) (n : Nat) : State := { s with cycles := s.cycles + n }

/-! ### The stack -/

/-- `Push16(w)` (R201): the high byte at SP-1, then the low byte at SP-2. -/
def State.push16 (s : State) (w : Word) : State :=
  let s1 := { s with sp := s.sp - 1 }
  let s2 := s1.busWrite s1.sp (hi w)
  let s3 := { s2 with sp := s2.sp - 1 }
  s3.busWrite s3.sp (lo w)

/-- `Pop16()` (R202): the low byte at SP, then the high byte at SP+1. -/
def State.pop16 (s : State) : Word × State :=
  let r1 := s.busRead s.sp
  let s1 := { r1.2 with sp := r1.2.sp + 1 }
  let r2 := s1.busRead s1.sp
  let s2 := { r2.2 with sp := r2.2.sp + 1 }
  (cat r2.1 r1.1, s2)

/-! ### The collaborator's inputs and operations -/

/-- What the collaborator presents at this boundary; an empty list is an idle boundary (log 7). -/
def State.input (s : State) : BoundaryInput := s.inputs.headD .idle

/-- The input `irq_pending` of this step (R404). -/
def State.irqPending (s : State) : Bool := s.input.irqPending

/-- The input of this boundary is used up. -/
def State.dropInput (s : State) : State := { s with inputs := s.inputs.tail }

/-- The return address of an interrupt entry (R407, parameter `HALT_BUG_IRQ_RETURN`). -/
def State.interruptReturn (s : State) : Word :=
  if s.haltBug then
    match s.params.haltBugIrqReturn with
    | .pcMinus1 => s.pc - 1
    | .pc => s.pc
  else s.pc

/-- Taking an interrupt, `ServiceInterrupt(v)` (R407): it requires IME = ENABLED; it clears `halted` and `haltBug`, disables
IME, pushes the return address, and continues at the vector, for 5 M-cycles. -/
def serviceInterrupt (s : State) (v : Word) : Out :=
  if s.ime = .enabled then
    let ret := s.interruptReturn
    let s1 := { s with halted := false, haltBug := false, ime := .disabled }
    .next (({ s1.push16 ret with pc := v }).spend 5)
  else .fault .contractViolation

/-- The return from an interrupt that RETI does (R383, R410): PC from the stack, and IME = ENABLED at once. -/
def returnFromInterrupt (s : State) : State :=
  let r := s.pop16
  { r.2.writePC r.1 with ime := .enabled }

/-- `Wake()` (R414): leaves the stopped state and changes nothing else. -/
def State.wake (s : State) : State := { s with stopped := false }

/-- The end of a step that executed an instruction (R387): PENDING at the start becomes ENABLED unless the first opcode byte
is that of DI. -/
def State.stepEnd (s : State) (ime0 : Ime) (b0 : Byte) : State :=
  if ime0 = .pending ∧ b0 ≠ 0xF3 then { s with ime := .enabled } else s

/-- Apply a function to the state of a `next` outcome. -/
def mapNext (g : State → State) : Out → Out
  | .next s => .next (g s)
  | .fault r => .fault r
  | .refused r => .refused r

/-- The end of a turn: the boundary's input is used up (log 7), in the next state and in the state that a report of
`InvalidOpcode` leaves (log 10). -/
def endTurn : Out → Out
  | .next s => .next s.dropInput
  | .fault (.invalidOpcode byte pre left) => .fault (.invalidOpcode byte pre left.dropInput)
  | .fault .contractViolation => .fault .contractViolation
  | .refused r => .refused r

end Sys2Proof.Machine
end

