-- ==== Sys2Proof/Machine/Operands.lean ====
section
/-! DEFINITION. The operand forms: reg8 with (HL) (R103), the three ALU sources (R230), the indirect addresses (R76, R108), and the condition codes (R350). -/

namespace Sys2Proof.Machine

/-- Read of `reg8[i]`: a register, or `MemRead(HL, 1)` (R103). -/
def State.readLoc (s : State) : Loc8 → Byte × State
  | .reg r => (s.get8 r, s)
  | .mHL => s.busRead s.hl

/-- Write of `reg8[i]`: a register, or `MemWrite(HL, 1, v)` (R103). -/
def State.writeLoc (s : State) (loc : Loc8) (v : Byte) : State :=
  match loc with
  | .reg r => s.set8 r v
  | .mHL => s.busWrite s.hl v

/-- Read of the second ALU operand (R230). -/
def State.readSrc (s : State) : AluSrc → Byte × State
  | .reg r => (s.get8 r, s)
  | .mHL => s.busRead s.hl
  | .d8 n => (n, s)

/-- The length of an ALU instruction by its source (R230). -/
def aluLength : AluSrc → Nat
  | .reg _ => 1
  | .mHL => 1
  | .d8 _ => 2

/-- The cost of an ALU instruction by its source (R230, R446). -/
def aluCost : AluSrc → Nat
  | .reg _ => 1
  | .mHL => 2
  | .d8 _ => 2

/-- The address `0xFF00 + n` of the high page (R76, R108). -/
def highPage (n : Byte) : Word := BitVec.ofNat 16 (0xFF00 + n.toNat)

/-- The RST target `zext_16(8 * y)` (R108, R363). -/
def rstTarget (y : Sel3) : Word := BitVec.ofNat 16 (8 * y.toNat)

/-- The flag Z, `F[7]` (R32). -/
def State.flagZ (s : State) : Bool := bit s.readF 7

/-- The flag N, `F[6]` (R32). -/
def State.flagN (s : State) : Bool := bit s.readF 6

/-- The flag H, `F[5]` (R32). -/
def State.flagH (s : State) : Bool := bit s.readF 5

/-- The flag C, `F[4]` (R32). -/
def State.flagC (s : State) : Bool := bit s.readF 4

/-- `cond(cc)` (R106, R350). -/
def State.cond (s : State) : Cond → Bool
  | .nz => !s.flagZ
  | .z => s.flagZ
  | .nc => !s.flagC
  | .c => s.flagC

end Sys2Proof.Machine
end

