-- ==== Sys2Proof/Machine/Flags.lean ====
section
/-! DEFINITION. The arithmetic primitives of R140 to R145, and every result-and-flags computation of the instruction rules. -/

namespace Sys2Proof.Machine

/-- `OperationResult` of the 8-bit primitives (R140). -/
structure Result8 where
  result    : Byte
  carry     : Bool
  halfcarry : Bool
  deriving DecidableEq, Repr

/-- `OperationResult` of the 16-bit primitives (R142, R145). -/
structure Result16 where
  result    : Word
  carry     : Bool
  halfcarry : Bool
  deriving DecidableEq, Repr

/-- `adc8(a, b, cin)` (R143): the three-input sum. -/
def adc8 (a b : Byte) (cin : Bool) : Result8 :=
  { result := a + b + BitVec.ofNat 8 (bitNat cin)
    carry := decide (a.toNat + b.toNat + bitNat cin > 0xFF)
    halfcarry := decide (a.toNat % 16 + b.toNat % 16 + bitNat cin > 0xF) }

/-- `add8(a, b)` (R140). -/
def add8 (a b : Byte) : Result8 :=
  { result := a + b
    carry := decide (a.toNat + b.toNat > 0xFF)
    halfcarry := decide (a.toNat % 16 + b.toNat % 16 > 0xF) }

/-- `sbc8(a, b, cin)` (R144): the three-input difference. -/
def sbc8 (a b : Byte) (cin : Bool) : Result8 :=
  { result := a - b - BitVec.ofNat 8 (bitNat cin)
    carry := decide (b.toNat + bitNat cin > a.toNat)
    halfcarry := decide (b.toNat % 16 + bitNat cin > a.toNat % 16) }

/-- `sub8(a, b)` (R141). -/
def sub8 (a b : Byte) : Result8 :=
  { result := a - b
    carry := decide (b.toNat > a.toNat)
    halfcarry := decide (b.toNat % 16 > a.toNat % 16) }

/-- `add16(a, b)` (R142): half-carry out of bit 11. -/
def add16 (a b : Word) : Result16 :=
  { result := a + b
    carry := decide (a.toNat + b.toNat > 0xFFFF)
    halfcarry := decide (a.toNat % 4096 + b.toNat % 4096 > 0xFFF) }

/-- `addSPe(sp, e)` (R145): the 16-bit result, with the flags of `add8(lo(sp), e)`. -/
def addSPe (sp : Word) (e : Byte) : Result16 :=
  { result := sp + sext16 e
    carry := (add8 (lo sp) e).carry
    halfcarry := (add8 (lo sp) e).halfcarry }

/-- The byte F with the four flags in bits 7 to 4 and 0 below (R32). -/
def packFlags (z n h c : Bool) : Byte :=
  BitVec.ofNat 8 (bitNat z * 128 + bitNat n * 64 + bitNat h * 32 + bitNat c * 16)

/-- Write the four flags; a rule that leaves a flag unaffected passes its old value (R32, R36). -/
def State.setFlags (s : State) (z n h c : Bool) : State := s.writeF (packFlags z n h c)

/-- What an ALU instruction leaves in A and in the flags. -/
structure AluOut where
  a : Byte
  z : Bool
  n : Bool
  h : Bool
  c : Bool
  deriving DecidableEq, Repr

/-- A result that is written to A, with Z from the truncated result (R147). -/
def AluOut.of (r : Result8) (n : Bool) : AluOut :=
  { a := r.result, z := decide (r.result = 0), n := n, h := r.halfcarry, c := r.carry }

/-- A logic result: N = 0, C = 0 and the fixed H of the operation (R281, R284, R287). -/
def AluOut.logic (r : Byte) (h : Bool) : AluOut :=
  { a := r, z := decide (r = 0), n := false, h := h, c := false }

/-- A and the flags after an ALU operation on A, the operand `v` and the old carry (R231 to R245, R281 to R289). CP writes only
the flags. -/
def aluOut (op : AluOp) (a v : Byte) (cin : Bool) : AluOut :=
  match op with
  | .add => AluOut.of (add8 a v) false
  | .adc => AluOut.of (adc8 a v cin) false
  | .sub => AluOut.of (sub8 a v) true
  | .sbc => AluOut.of (sbc8 a v cin) true
  | .and => AluOut.logic (a &&& v) true
  | .xor => AluOut.logic (a ^^^ v) false
  | .or => AluOut.logic (a ||| v) false
  | .cp => { AluOut.of (sub8 a v) true with a := a }

/-- A rotate or shift result: the new byte and the bit shifted out. -/
structure RotOut where
  result : Byte
  carry  : Bool
  deriving DecidableEq, Repr

/-- The rotates and shifts of a byte with the old carry (R321 to R340). SWAP clears C. -/
def rotOut (op : RotOp) (v : Byte) (cin : Bool) : RotOut :=
  match op with
  | .rlc => { result := (v <<< 1) ||| BitVec.ofNat 8 (bitNat (bit v 7)), carry := bit v 7 }
  | .rrc => { result := (v >>> 1) ||| BitVec.ofNat 8 (bitNat (bit v 0) * 128), carry := bit v 0 }
  | .rl => { result := (v <<< 1) ||| BitVec.ofNat 8 (bitNat cin), carry := bit v 7 }
  | .rr => { result := (v >>> 1) ||| BitVec.ofNat 8 (bitNat cin * 128), carry := bit v 0 }
  | .sla => { result := v <<< 1, carry := bit v 7 }
  | .sra => { result := (v >>> 1) ||| (v &&& 0x80), carry := bit v 0 }
  | .swap => { result := ((v &&& 0x0F) <<< 4) ||| (v >>> 4), carry := false }
  | .srl => { result := v >>> 1, carry := bit v 0 }

/-- `1 << b` as a byte. -/
def bitMask (b : Sel3) : Byte := 1 <<< b.toNat

/-- A and C after DAA (R250), from the old A and the old N, H and C. -/
structure DaaOut where
  a : Byte
  c : Bool
  deriving DecidableEq, Repr

/-- The decimal adjustment (R250). -/
def daaOut (a : Byte) (n h c : Bool) : DaaOut :=
  if n then
    let a1 := if c then a - 0x60 else a
    { a := if h then a1 - 0x06 else a1, c := c }
  else
    let up := c || decide (a.toNat > 0x99)
    let a1 := if up then a + 0x60 else a
    { a := if h || decide (a1.toNat % 16 > 0x09) then a1 + 0x06 else a1, c := up }

end Sys2Proof.Machine
end

