-- ==== Sys2Proof/Machine/Accessors.lean ====
section
/-! DEFINITION. The accessors the core exposes to the collaborator between steps (R46, R47, D22): read and write of every register and flag, and read of the control state. -/

namespace Sys2Proof.Machine

/-- The eight 8-bit registers (R30). -/
inductive RegName where
  | a | f | b | c | d | e | h | l
  deriving DecidableEq, Repr

/-- The 16-bit views and registers (R31). -/
inductive PairName where
  | af | bc | de | hl | sp | pc
  deriving DecidableEq, Repr

/-- The four flags (R32). -/
inductive FlagName where
  | z | n | h | c
  deriving DecidableEq, Repr

/-- Read of an 8-bit register. -/
def State.readReg (s : State) : RegName → Byte
  | .a => s.a | .f => s.readF | .b => s.b | .c => s.c | .d => s.d | .e => s.e | .h => s.h | .l => s.l

/-- Write of an 8-bit register; F keeps F[3:0] = 0 (R32). -/
def State.writeReg (s : State) (r : RegName) (v : Byte) : State :=
  match r with
  | .a => { s with a := v } | .f => s.writeF v | .b => { s with b := v } | .c => { s with c := v }
  | .d => { s with d := v } | .e => { s with e := v } | .h => { s with h := v } | .l => { s with l := v }

/-- Read of a 16-bit view or register. -/
def State.readPair (s : State) : PairName → Word
  | .af => s.af | .bc => s.bc | .de => s.de | .hl => s.hl | .sp => s.sp | .pc => s.pc

/-- Write of a 16-bit view or register. -/
def State.writePair (s : State) (r : PairName) (w : Word) : State :=
  match r with
  | .af => s.setAF w | .bc => s.setBC w | .de => s.setDE w | .hl => s.setHL w
  | .sp => { s with sp := w } | .pc => { s with pc := w }

/-- Read of a flag. -/
def State.readFlag (s : State) : FlagName → Bool
  | .z => s.flagZ | .n => s.flagN | .h => s.flagH | .c => s.flagC

/-- Write of one flag; the other three keep their values (R32). -/
def State.writeFlag (s : State) (fl : FlagName) (v : Bool) : State :=
  match fl with
  | .z => s.setFlags v s.flagN s.flagH s.flagC
  | .n => s.setFlags s.flagZ v s.flagH s.flagC
  | .h => s.setFlags s.flagZ s.flagN v s.flagC
  | .c => s.setFlags s.flagZ s.flagN s.flagH v

/-- Read of IME. -/
def State.readIme (s : State) : Ime := s.ime

/-- Read of `halted`. -/
def State.readHalted (s : State) : Bool := s.halted

/-- Read of `stopped`. -/
def State.readStopped (s : State) : Bool := s.stopped

/-- Read of `haltBug`: no state exists that the accessors do not show (C4). -/
def State.readHaltBug (s : State) : Bool := s.haltBug

end Sys2Proof.Machine
end

