-- ==== Sys2Proof/Machine/Arith16.lean ====
section
/-! DEFINITION. The meanings of the 16-bit arithmetic instructions (R260 to R264). -/

namespace Sys2Proof.Machine

/-- ADD HL,rr (R261): Z is unaffected. -/
def addHLPair (p : Reg16) (s : State) : Out :=
  let r := add16 s.hl (s.get16 p)
  .next ((((s.setHL r.result).setFlags s.flagZ false r.halfcarry r.carry).advance 1).spend 2)

/-- INC rr (R262). -/
def incPair (p : Reg16) (s : State) : Out :=
  .next (((s.set16 p (s.get16 p + 1)).advance 1).spend 2)

/-- DEC rr (R263). -/
def decPair (p : Reg16) (s : State) : Out :=
  .next (((s.set16 p (s.get16 p - 1)).advance 1).spend 2)

/-- ADD SP,e8 (R264). -/
def addSPImm (e : Byte) (s : State) : Out :=
  let r := addSPe s.sp e
  .next (((({ s with sp := r.result }).setFlags false false r.halfcarry r.carry).advance 2).spend 4)

/-- INC BC, opcode 0x03 (R262). -/
def exec_inc_BC (s : State) : Out := incPair .bc s

/-- ADD HL,BC, opcode 0x09 (R261). -/
def exec_add_HL_BC (s : State) : Out := addHLPair .bc s

/-- DEC BC, opcode 0x0B (R263). -/
def exec_dec_BC (s : State) : Out := decPair .bc s

/-- INC DE, opcode 0x13 (R262). -/
def exec_inc_DE (s : State) : Out := incPair .de s

/-- ADD HL,DE, opcode 0x19 (R261). -/
def exec_add_HL_DE (s : State) : Out := addHLPair .de s

/-- DEC DE, opcode 0x1B (R263). -/
def exec_dec_DE (s : State) : Out := decPair .de s

/-- INC HL, opcode 0x23 (R262). -/
def exec_inc_HL (s : State) : Out := incPair .hl s

/-- ADD HL,HL, opcode 0x29 (R261). -/
def exec_add_HL_HL (s : State) : Out := addHLPair .hl s

/-- DEC HL, opcode 0x2B (R263). -/
def exec_dec_HL (s : State) : Out := decPair .hl s

/-- INC SP, opcode 0x33 (R262). -/
def exec_inc_SP (s : State) : Out := incPair .sp s

/-- ADD HL,SP, opcode 0x39 (R261). -/
def exec_add_HL_SP (s : State) : Out := addHLPair .sp s

/-- DEC SP, opcode 0x3B (R263). -/
def exec_dec_SP (s : State) : Out := decPair .sp s

/-- ADD SP,e8, opcode 0xE8 (R264). -/
def exec_add_SP_e8 (e : Byte) (s : State) : Out := addSPImm e s

end Sys2Proof.Machine
end

