-- ==== Sys2Proof/Machine/Arith8.lean ====
section
/-! DEFINITION. The meanings of the 8-bit arithmetic instructions (R230 to R252). -/

namespace Sys2Proof.Machine

/-- An ALU instruction on A (R230): the operand is read first, then A and F are written as the operation says. -/
def aluA (op : AluOp) (src : AluSrc) (s : State) : Out :=
  let r := s.readSrc src
  let o := aluOut op s.a r.1 s.flagC
  .next ((((r.2.set8 .a o.a).setFlags o.z o.n o.h o.c).advance (aluLength src)).spend (aluCost src))

/-- The cost of INC and DEC of an 8-bit operand (R446). -/
def incCost : Loc8 → Nat
  | .reg _ => 1
  | .mHL => 3

/-- INC r and INC (HL) (R246, R247): C is unaffected. -/
def incLoc (loc : Loc8) (s : State) : Out :=
  let r := s.readLoc loc
  let o := add8 r.1 1
  .next ((((r.2.writeLoc loc o.result).setFlags (decide (o.result = 0)) false o.halfcarry s.flagC).advance 1).spend (incCost loc))

/-- DEC r and DEC (HL) (R248, R249): C is unaffected. -/
def decLoc (loc : Loc8) (s : State) : Out :=
  let r := s.readLoc loc
  let o := sub8 r.1 1
  .next ((((r.2.writeLoc loc o.result).setFlags (decide (o.result = 0)) true o.halfcarry s.flagC).advance 1).spend (incCost loc))

/-- DAA (R250): H = 0, N unaffected. -/
def adjustA (s : State) : Out :=
  let o := daaOut s.a s.flagN s.flagH s.flagC
  .next ((((s.set8 .a o.a).setFlags (decide (o.a = 0)) s.flagN false o.c).advance 1).spend 1)

/-- SCF and CCF (R251, R252): N = 0, H = 0, Z unaffected, C as given. -/
def putCarry (c : Bool) (s : State) : Out :=
  .next (((s.setFlags s.flagZ false false c).advance 1).spend 1)

/-- INC B, opcode 0x04 (R246). -/
def exec_inc_B (s : State) : Out := incLoc (.reg .b) s

/-- DEC B, opcode 0x05 (R248). -/
def exec_dec_B (s : State) : Out := decLoc (.reg .b) s

/-- INC C, opcode 0x0C (R246). -/
def exec_inc_C (s : State) : Out := incLoc (.reg .c) s

/-- DEC C, opcode 0x0D (R248). -/
def exec_dec_C (s : State) : Out := decLoc (.reg .c) s

/-- INC D, opcode 0x14 (R246). -/
def exec_inc_D (s : State) : Out := incLoc (.reg .d) s

/-- DEC D, opcode 0x15 (R248). -/
def exec_dec_D (s : State) : Out := decLoc (.reg .d) s

/-- INC E, opcode 0x1C (R246). -/
def exec_inc_E (s : State) : Out := incLoc (.reg .e) s

/-- DEC E, opcode 0x1D (R248). -/
def exec_dec_E (s : State) : Out := decLoc (.reg .e) s

/-- INC H, opcode 0x24 (R246). -/
def exec_inc_H (s : State) : Out := incLoc (.reg .h) s

/-- DEC H, opcode 0x25 (R248). -/
def exec_dec_H (s : State) : Out := decLoc (.reg .h) s

/-- DAA, opcode 0x27 (R250). -/
def exec_daa (s : State) : Out := adjustA s

/-- INC L, opcode 0x2C (R246). -/
def exec_inc_L (s : State) : Out := incLoc (.reg .l) s

/-- DEC L, opcode 0x2D (R248). -/
def exec_dec_L (s : State) : Out := decLoc (.reg .l) s

/-- INC (HL), opcode 0x34 (R247). -/
def exec_inc_mHL (s : State) : Out := incLoc .mHL s

/-- DEC (HL), opcode 0x35 (R249). -/
def exec_dec_mHL (s : State) : Out := decLoc .mHL s

/-- SCF, opcode 0x37 (R251). -/
def exec_scf (s : State) : Out := putCarry true s

/-- INC A, opcode 0x3C (R246). -/
def exec_inc_A (s : State) : Out := incLoc (.reg .a) s

/-- DEC A, opcode 0x3D (R248). -/
def exec_dec_A (s : State) : Out := decLoc (.reg .a) s

/-- CCF, opcode 0x3F (R252). -/
def exec_ccf (s : State) : Out := putCarry (!s.flagC) s

/-- ADD A,B, opcode 0x80 (R231). -/
def exec_add_A_B (s : State) : Out := aluA .add (.reg .b) s

/-- ADD A,C, opcode 0x81 (R231). -/
def exec_add_A_C (s : State) : Out := aluA .add (.reg .c) s

/-- ADD A,D, opcode 0x82 (R231). -/
def exec_add_A_D (s : State) : Out := aluA .add (.reg .d) s

/-- ADD A,E, opcode 0x83 (R231). -/
def exec_add_A_E (s : State) : Out := aluA .add (.reg .e) s

/-- ADD A,H, opcode 0x84 (R231). -/
def exec_add_A_H (s : State) : Out := aluA .add (.reg .h) s

/-- ADD A,L, opcode 0x85 (R231). -/
def exec_add_A_L (s : State) : Out := aluA .add (.reg .l) s

/-- ADD A,(HL), opcode 0x86 (R232). -/
def exec_add_A_mHL (s : State) : Out := aluA .add .mHL s

/-- ADD A,A, opcode 0x87 (R231). -/
def exec_add_A_A (s : State) : Out := aluA .add (.reg .a) s

/-- ADC A,B, opcode 0x88 (R234). -/
def exec_adc_A_B (s : State) : Out := aluA .adc (.reg .b) s

/-- ADC A,C, opcode 0x89 (R234). -/
def exec_adc_A_C (s : State) : Out := aluA .adc (.reg .c) s

/-- ADC A,D, opcode 0x8A (R234). -/
def exec_adc_A_D (s : State) : Out := aluA .adc (.reg .d) s

/-- ADC A,E, opcode 0x8B (R234). -/
def exec_adc_A_E (s : State) : Out := aluA .adc (.reg .e) s

/-- ADC A,H, opcode 0x8C (R234). -/
def exec_adc_A_H (s : State) : Out := aluA .adc (.reg .h) s

/-- ADC A,L, opcode 0x8D (R234). -/
def exec_adc_A_L (s : State) : Out := aluA .adc (.reg .l) s

/-- ADC A,(HL), opcode 0x8E (R235). -/
def exec_adc_A_mHL (s : State) : Out := aluA .adc .mHL s

/-- ADC A,A, opcode 0x8F (R234). -/
def exec_adc_A_A (s : State) : Out := aluA .adc (.reg .a) s

/-- SUB B, opcode 0x90 (R237). -/
def exec_sub_B (s : State) : Out := aluA .sub (.reg .b) s

/-- SUB C, opcode 0x91 (R237). -/
def exec_sub_C (s : State) : Out := aluA .sub (.reg .c) s

/-- SUB D, opcode 0x92 (R237). -/
def exec_sub_D (s : State) : Out := aluA .sub (.reg .d) s

/-- SUB E, opcode 0x93 (R237). -/
def exec_sub_E (s : State) : Out := aluA .sub (.reg .e) s

/-- SUB H, opcode 0x94 (R237). -/
def exec_sub_H (s : State) : Out := aluA .sub (.reg .h) s

/-- SUB L, opcode 0x95 (R237). -/
def exec_sub_L (s : State) : Out := aluA .sub (.reg .l) s

/-- SUB (HL), opcode 0x96 (R238). -/
def exec_sub_mHL (s : State) : Out := aluA .sub .mHL s

/-- SUB A, opcode 0x97 (R237). -/
def exec_sub_A (s : State) : Out := aluA .sub (.reg .a) s

/-- SBC A,B, opcode 0x98 (R240). -/
def exec_sbc_A_B (s : State) : Out := aluA .sbc (.reg .b) s

/-- SBC A,C, opcode 0x99 (R240). -/
def exec_sbc_A_C (s : State) : Out := aluA .sbc (.reg .c) s

/-- SBC A,D, opcode 0x9A (R240). -/
def exec_sbc_A_D (s : State) : Out := aluA .sbc (.reg .d) s

/-- SBC A,E, opcode 0x9B (R240). -/
def exec_sbc_A_E (s : State) : Out := aluA .sbc (.reg .e) s

/-- SBC A,H, opcode 0x9C (R240). -/
def exec_sbc_A_H (s : State) : Out := aluA .sbc (.reg .h) s

/-- SBC A,L, opcode 0x9D (R240). -/
def exec_sbc_A_L (s : State) : Out := aluA .sbc (.reg .l) s

/-- SBC A,(HL), opcode 0x9E (R241). -/
def exec_sbc_A_mHL (s : State) : Out := aluA .sbc .mHL s

/-- SBC A,A, opcode 0x9F (R240). -/
def exec_sbc_A_A (s : State) : Out := aluA .sbc (.reg .a) s

/-- CP B, opcode 0xB8 (R243). -/
def exec_cp_B (s : State) : Out := aluA .cp (.reg .b) s

/-- CP C, opcode 0xB9 (R243). -/
def exec_cp_C (s : State) : Out := aluA .cp (.reg .c) s

/-- CP D, opcode 0xBA (R243). -/
def exec_cp_D (s : State) : Out := aluA .cp (.reg .d) s

/-- CP E, opcode 0xBB (R243). -/
def exec_cp_E (s : State) : Out := aluA .cp (.reg .e) s

/-- CP H, opcode 0xBC (R243). -/
def exec_cp_H (s : State) : Out := aluA .cp (.reg .h) s

/-- CP L, opcode 0xBD (R243). -/
def exec_cp_L (s : State) : Out := aluA .cp (.reg .l) s

/-- CP (HL), opcode 0xBE (R244). -/
def exec_cp_mHL (s : State) : Out := aluA .cp .mHL s

/-- CP A, opcode 0xBF (R243). -/
def exec_cp_A (s : State) : Out := aluA .cp (.reg .a) s

/-- ADD A,d8, opcode 0xC6 (R233). -/
def exec_add_A_d8 (n : Byte) (s : State) : Out := aluA .add (.d8 n) s

/-- ADC A,d8, opcode 0xCE (R236). -/
def exec_adc_A_d8 (n : Byte) (s : State) : Out := aluA .adc (.d8 n) s

/-- SUB d8, opcode 0xD6 (R239). -/
def exec_sub_d8 (n : Byte) (s : State) : Out := aluA .sub (.d8 n) s

/-- SBC A,d8, opcode 0xDE (R242). -/
def exec_sbc_A_d8 (n : Byte) (s : State) : Out := aluA .sbc (.d8 n) s

/-- CP d8, opcode 0xFE (R245). -/
def exec_cp_d8 (n : Byte) (s : State) : Out := aluA .cp (.d8 n) s

end Sys2Proof.Machine
end

