-- ==== Sys2Proof/Machine/Bit.lean ====
section
/-! DEFINITION. The meanings of BIT, RES and SET (R300 to R306). -/

namespace Sys2Proof.Machine

/-- The cost of BIT by its operand (R446). -/
def bitCost : Loc8 → Nat
  | .reg _ => 2
  | .mHL => 3

/-- The cost of the prefixed instructions that write their operand (R446). -/
def cbCost : Loc8 → Nat
  | .reg _ => 2
  | .mHL => 4

/-- BIT b,r and BIT b,(HL) (R301, R302): the operand is not written, C is unaffected. -/
def testBit (b : Sel3) (loc : Loc8) (s : State) : Out :=
  let r := s.readLoc loc
  .next (((r.2.setFlags (!bit r.1 b.toNat) false true s.flagC).advance 2).spend (bitCost loc))

/-- RES b,r and RES b,(HL) (R303, R304): no flag. -/
def resetBit (b : Sel3) (loc : Loc8) (s : State) : Out :=
  let r := s.readLoc loc
  .next (((r.2.writeLoc loc (r.1 &&& ~~~ bitMask b)).advance 2).spend (cbCost loc))

/-- SET b,r and SET b,(HL) (R305, R306): no flag. -/
def setBit (b : Sel3) (loc : Loc8) (s : State) : Out :=
  let r := s.readLoc loc
  .next (((r.2.writeLoc loc (r.1 ||| bitMask b)).advance 2).spend (cbCost loc))

/-- BIT 0,B, opcode 0xCB 0x40 (R301). -/
def exec_bit_0_B (s : State) : Out := testBit .n0 (.reg .b) s

/-- BIT 0,C, opcode 0xCB 0x41 (R301). -/
def exec_bit_0_C (s : State) : Out := testBit .n0 (.reg .c) s

/-- BIT 0,D, opcode 0xCB 0x42 (R301). -/
def exec_bit_0_D (s : State) : Out := testBit .n0 (.reg .d) s

/-- BIT 0,E, opcode 0xCB 0x43 (R301). -/
def exec_bit_0_E (s : State) : Out := testBit .n0 (.reg .e) s

/-- BIT 0,H, opcode 0xCB 0x44 (R301). -/
def exec_bit_0_H (s : State) : Out := testBit .n0 (.reg .h) s

/-- BIT 0,L, opcode 0xCB 0x45 (R301). -/
def exec_bit_0_L (s : State) : Out := testBit .n0 (.reg .l) s

/-- BIT 0,(HL), opcode 0xCB 0x46 (R302). -/
def exec_bit_0_mHL (s : State) : Out := testBit .n0 .mHL s

/-- BIT 0,A, opcode 0xCB 0x47 (R301). -/
def exec_bit_0_A (s : State) : Out := testBit .n0 (.reg .a) s

/-- BIT 1,B, opcode 0xCB 0x48 (R301). -/
def exec_bit_1_B (s : State) : Out := testBit .n1 (.reg .b) s

/-- BIT 1,C, opcode 0xCB 0x49 (R301). -/
def exec_bit_1_C (s : State) : Out := testBit .n1 (.reg .c) s

/-- BIT 1,D, opcode 0xCB 0x4A (R301). -/
def exec_bit_1_D (s : State) : Out := testBit .n1 (.reg .d) s

/-- BIT 1,E, opcode 0xCB 0x4B (R301). -/
def exec_bit_1_E (s : State) : Out := testBit .n1 (.reg .e) s

/-- BIT 1,H, opcode 0xCB 0x4C (R301). -/
def exec_bit_1_H (s : State) : Out := testBit .n1 (.reg .h) s

/-- BIT 1,L, opcode 0xCB 0x4D (R301). -/
def exec_bit_1_L (s : State) : Out := testBit .n1 (.reg .l) s

/-- BIT 1,(HL), opcode 0xCB 0x4E (R302). -/
def exec_bit_1_mHL (s : State) : Out := testBit .n1 .mHL s

/-- BIT 1,A, opcode 0xCB 0x4F (R301). -/
def exec_bit_1_A (s : State) : Out := testBit .n1 (.reg .a) s

/-- BIT 2,B, opcode 0xCB 0x50 (R301). -/
def exec_bit_2_B (s : State) : Out := testBit .n2 (.reg .b) s

/-- BIT 2,C, opcode 0xCB 0x51 (R301). -/
def exec_bit_2_C (s : State) : Out := testBit .n2 (.reg .c) s

/-- BIT 2,D, opcode 0xCB 0x52 (R301). -/
def exec_bit_2_D (s : State) : Out := testBit .n2 (.reg .d) s

/-- BIT 2,E, opcode 0xCB 0x53 (R301). -/
def exec_bit_2_E (s : State) : Out := testBit .n2 (.reg .e) s

/-- BIT 2,H, opcode 0xCB 0x54 (R301). -/
def exec_bit_2_H (s : State) : Out := testBit .n2 (.reg .h) s

/-- BIT 2,L, opcode 0xCB 0x55 (R301). -/
def exec_bit_2_L (s : State) : Out := testBit .n2 (.reg .l) s

/-- BIT 2,(HL), opcode 0xCB 0x56 (R302). -/
def exec_bit_2_mHL (s : State) : Out := testBit .n2 .mHL s

/-- BIT 2,A, opcode 0xCB 0x57 (R301). -/
def exec_bit_2_A (s : State) : Out := testBit .n2 (.reg .a) s

/-- BIT 3,B, opcode 0xCB 0x58 (R301). -/
def exec_bit_3_B (s : State) : Out := testBit .n3 (.reg .b) s

/-- BIT 3,C, opcode 0xCB 0x59 (R301). -/
def exec_bit_3_C (s : State) : Out := testBit .n3 (.reg .c) s

/-- BIT 3,D, opcode 0xCB 0x5A (R301). -/
def exec_bit_3_D (s : State) : Out := testBit .n3 (.reg .d) s

/-- BIT 3,E, opcode 0xCB 0x5B (R301). -/
def exec_bit_3_E (s : State) : Out := testBit .n3 (.reg .e) s

/-- BIT 3,H, opcode 0xCB 0x5C (R301). -/
def exec_bit_3_H (s : State) : Out := testBit .n3 (.reg .h) s

/-- BIT 3,L, opcode 0xCB 0x5D (R301). -/
def exec_bit_3_L (s : State) : Out := testBit .n3 (.reg .l) s

/-- BIT 3,(HL), opcode 0xCB 0x5E (R302). -/
def exec_bit_3_mHL (s : State) : Out := testBit .n3 .mHL s

/-- BIT 3,A, opcode 0xCB 0x5F (R301). -/
def exec_bit_3_A (s : State) : Out := testBit .n3 (.reg .a) s

/-- BIT 4,B, opcode 0xCB 0x60 (R301). -/
def exec_bit_4_B (s : State) : Out := testBit .n4 (.reg .b) s

/-- BIT 4,C, opcode 0xCB 0x61 (R301). -/
def exec_bit_4_C (s : State) : Out := testBit .n4 (.reg .c) s

/-- BIT 4,D, opcode 0xCB 0x62 (R301). -/
def exec_bit_4_D (s : State) : Out := testBit .n4 (.reg .d) s

/-- BIT 4,E, opcode 0xCB 0x63 (R301). -/
def exec_bit_4_E (s : State) : Out := testBit .n4 (.reg .e) s

/-- BIT 4,H, opcode 0xCB 0x64 (R301). -/
def exec_bit_4_H (s : State) : Out := testBit .n4 (.reg .h) s

/-- BIT 4,L, opcode 0xCB 0x65 (R301). -/
def exec_bit_4_L (s : State) : Out := testBit .n4 (.reg .l) s

/-- BIT 4,(HL), opcode 0xCB 0x66 (R302). -/
def exec_bit_4_mHL (s : State) : Out := testBit .n4 .mHL s

/-- BIT 4,A, opcode 0xCB 0x67 (R301). -/
def exec_bit_4_A (s : State) : Out := testBit .n4 (.reg .a) s

/-- BIT 5,B, opcode 0xCB 0x68 (R301). -/
def exec_bit_5_B (s : State) : Out := testBit .n5 (.reg .b) s

/-- BIT 5,C, opcode 0xCB 0x69 (R301). -/
def exec_bit_5_C (s : State) : Out := testBit .n5 (.reg .c) s

/-- BIT 5,D, opcode 0xCB 0x6A (R301). -/
def exec_bit_5_D (s : State) : Out := testBit .n5 (.reg .d) s

/-- BIT 5,E, opcode 0xCB 0x6B (R301). -/
def exec_bit_5_E (s : State) : Out := testBit .n5 (.reg .e) s

/-- BIT 5,H, opcode 0xCB 0x6C (R301). -/
def exec_bit_5_H (s : State) : Out := testBit .n5 (.reg .h) s

/-- BIT 5,L, opcode 0xCB 0x6D (R301). -/
def exec_bit_5_L (s : State) : Out := testBit .n5 (.reg .l) s

/-- BIT 5,(HL), opcode 0xCB 0x6E (R302). -/
def exec_bit_5_mHL (s : State) : Out := testBit .n5 .mHL s

/-- BIT 5,A, opcode 0xCB 0x6F (R301). -/
def exec_bit_5_A (s : State) : Out := testBit .n5 (.reg .a) s

/-- BIT 6,B, opcode 0xCB 0x70 (R301). -/
def exec_bit_6_B (s : State) : Out := testBit .n6 (.reg .b) s

/-- BIT 6,C, opcode 0xCB 0x71 (R301). -/
def exec_bit_6_C (s : State) : Out := testBit .n6 (.reg .c) s

/-- BIT 6,D, opcode 0xCB 0x72 (R301). -/
def exec_bit_6_D (s : State) : Out := testBit .n6 (.reg .d) s

/-- BIT 6,E, opcode 0xCB 0x73 (R301). -/
def exec_bit_6_E (s : State) : Out := testBit .n6 (.reg .e) s

/-- BIT 6,H, opcode 0xCB 0x74 (R301). -/
def exec_bit_6_H (s : State) : Out := testBit .n6 (.reg .h) s

/-- BIT 6,L, opcode 0xCB 0x75 (R301). -/
def exec_bit_6_L (s : State) : Out := testBit .n6 (.reg .l) s

/-- BIT 6,(HL), opcode 0xCB 0x76 (R302). -/
def exec_bit_6_mHL (s : State) : Out := testBit .n6 .mHL s

/-- BIT 6,A, opcode 0xCB 0x77 (R301). -/
def exec_bit_6_A (s : State) : Out := testBit .n6 (.reg .a) s

/-- BIT 7,B, opcode 0xCB 0x78 (R301). -/
def exec_bit_7_B (s : State) : Out := testBit .n7 (.reg .b) s

/-- BIT 7,C, opcode 0xCB 0x79 (R301). -/
def exec_bit_7_C (s : State) : Out := testBit .n7 (.reg .c) s

/-- BIT 7,D, opcode 0xCB 0x7A (R301). -/
def exec_bit_7_D (s : State) : Out := testBit .n7 (.reg .d) s

/-- BIT 7,E, opcode 0xCB 0x7B (R301). -/
def exec_bit_7_E (s : State) : Out := testBit .n7 (.reg .e) s

/-- BIT 7,H, opcode 0xCB 0x7C (R301). -/
def exec_bit_7_H (s : State) : Out := testBit .n7 (.reg .h) s

/-- BIT 7,L, opcode 0xCB 0x7D (R301). -/
def exec_bit_7_L (s : State) : Out := testBit .n7 (.reg .l) s

/-- BIT 7,(HL), opcode 0xCB 0x7E (R302). -/
def exec_bit_7_mHL (s : State) : Out := testBit .n7 .mHL s

/-- BIT 7,A, opcode 0xCB 0x7F (R301). -/
def exec_bit_7_A (s : State) : Out := testBit .n7 (.reg .a) s

/-- RES 0,B, opcode 0xCB 0x80 (R303). -/
def exec_res_0_B (s : State) : Out := resetBit .n0 (.reg .b) s

/-- RES 0,C, opcode 0xCB 0x81 (R303). -/
def exec_res_0_C (s : State) : Out := resetBit .n0 (.reg .c) s

/-- RES 0,D, opcode 0xCB 0x82 (R303). -/
def exec_res_0_D (s : State) : Out := resetBit .n0 (.reg .d) s

/-- RES 0,E, opcode 0xCB 0x83 (R303). -/
def exec_res_0_E (s : State) : Out := resetBit .n0 (.reg .e) s

/-- RES 0,H, opcode 0xCB 0x84 (R303). -/
def exec_res_0_H (s : State) : Out := resetBit .n0 (.reg .h) s

/-- RES 0,L, opcode 0xCB 0x85 (R303). -/
def exec_res_0_L (s : State) : Out := resetBit .n0 (.reg .l) s

/-- RES 0,(HL), opcode 0xCB 0x86 (R304). -/
def exec_res_0_mHL (s : State) : Out := resetBit .n0 .mHL s

/-- RES 0,A, opcode 0xCB 0x87 (R303). -/
def exec_res_0_A (s : State) : Out := resetBit .n0 (.reg .a) s

/-- RES 1,B, opcode 0xCB 0x88 (R303). -/
def exec_res_1_B (s : State) : Out := resetBit .n1 (.reg .b) s

/-- RES 1,C, opcode 0xCB 0x89 (R303). -/
def exec_res_1_C (s : State) : Out := resetBit .n1 (.reg .c) s

/-- RES 1,D, opcode 0xCB 0x8A (R303). -/
def exec_res_1_D (s : State) : Out := resetBit .n1 (.reg .d) s

/-- RES 1,E, opcode 0xCB 0x8B (R303). -/
def exec_res_1_E (s : State) : Out := resetBit .n1 (.reg .e) s

/-- RES 1,H, opcode 0xCB 0x8C (R303). -/
def exec_res_1_H (s : State) : Out := resetBit .n1 (.reg .h) s

/-- RES 1,L, opcode 0xCB 0x8D (R303). -/
def exec_res_1_L (s : State) : Out := resetBit .n1 (.reg .l) s

/-- RES 1,(HL), opcode 0xCB 0x8E (R304). -/
def exec_res_1_mHL (s : State) : Out := resetBit .n1 .mHL s

/-- RES 1,A, opcode 0xCB 0x8F (R303). -/
def exec_res_1_A (s : State) : Out := resetBit .n1 (.reg .a) s

/-- RES 2,B, opcode 0xCB 0x90 (R303). -/
def exec_res_2_B (s : State) : Out := resetBit .n2 (.reg .b) s

/-- RES 2,C, opcode 0xCB 0x91 (R303). -/
def exec_res_2_C (s : State) : Out := resetBit .n2 (.reg .c) s

/-- RES 2,D, opcode 0xCB 0x92 (R303). -/
def exec_res_2_D (s : State) : Out := resetBit .n2 (.reg .d) s

/-- RES 2,E, opcode 0xCB 0x93 (R303). -/
def exec_res_2_E (s : State) : Out := resetBit .n2 (.reg .e) s

/-- RES 2,H, opcode 0xCB 0x94 (R303). -/
def exec_res_2_H (s : State) : Out := resetBit .n2 (.reg .h) s

/-- RES 2,L, opcode 0xCB 0x95 (R303). -/
def exec_res_2_L (s : State) : Out := resetBit .n2 (.reg .l) s

/-- RES 2,(HL), opcode 0xCB 0x96 (R304). -/
def exec_res_2_mHL (s : State) : Out := resetBit .n2 .mHL s

/-- RES 2,A, opcode 0xCB 0x97 (R303). -/
def exec_res_2_A (s : State) : Out := resetBit .n2 (.reg .a) s

/-- RES 3,B, opcode 0xCB 0x98 (R303). -/
def exec_res_3_B (s : State) : Out := resetBit .n3 (.reg .b) s

/-- RES 3,C, opcode 0xCB 0x99 (R303). -/
def exec_res_3_C (s : State) : Out := resetBit .n3 (.reg .c) s

/-- RES 3,D, opcode 0xCB 0x9A (R303). -/
def exec_res_3_D (s : State) : Out := resetBit .n3 (.reg .d) s

/-- RES 3,E, opcode 0xCB 0x9B (R303). -/
def exec_res_3_E (s : State) : Out := resetBit .n3 (.reg .e) s

/-- RES 3,H, opcode 0xCB 0x9C (R303). -/
def exec_res_3_H (s : State) : Out := resetBit .n3 (.reg .h) s

/-- RES 3,L, opcode 0xCB 0x9D (R303). -/
def exec_res_3_L (s : State) : Out := resetBit .n3 (.reg .l) s

/-- RES 3,(HL), opcode 0xCB 0x9E (R304). -/
def exec_res_3_mHL (s : State) : Out := resetBit .n3 .mHL s

/-- RES 3,A, opcode 0xCB 0x9F (R303). -/
def exec_res_3_A (s : State) : Out := resetBit .n3 (.reg .a) s

/-- RES 4,B, opcode 0xCB 0xA0 (R303). -/
def exec_res_4_B (s : State) : Out := resetBit .n4 (.reg .b) s

/-- RES 4,C, opcode 0xCB 0xA1 (R303). -/
def exec_res_4_C (s : State) : Out := resetBit .n4 (.reg .c) s

/-- RES 4,D, opcode 0xCB 0xA2 (R303). -/
def exec_res_4_D (s : State) : Out := resetBit .n4 (.reg .d) s

/-- RES 4,E, opcode 0xCB 0xA3 (R303). -/
def exec_res_4_E (s : State) : Out := resetBit .n4 (.reg .e) s

/-- RES 4,H, opcode 0xCB 0xA4 (R303). -/
def exec_res_4_H (s : State) : Out := resetBit .n4 (.reg .h) s

/-- RES 4,L, opcode 0xCB 0xA5 (R303). -/
def exec_res_4_L (s : State) : Out := resetBit .n4 (.reg .l) s

/-- RES 4,(HL), opcode 0xCB 0xA6 (R304). -/
def exec_res_4_mHL (s : State) : Out := resetBit .n4 .mHL s

/-- RES 4,A, opcode 0xCB 0xA7 (R303). -/
def exec_res_4_A (s : State) : Out := resetBit .n4 (.reg .a) s

/-- RES 5,B, opcode 0xCB 0xA8 (R303). -/
def exec_res_5_B (s : State) : Out := resetBit .n5 (.reg .b) s

/-- RES 5,C, opcode 0xCB 0xA9 (R303). -/
def exec_res_5_C (s : State) : Out := resetBit .n5 (.reg .c) s

/-- RES 5,D, opcode 0xCB 0xAA (R303). -/
def exec_res_5_D (s : State) : Out := resetBit .n5 (.reg .d) s

/-- RES 5,E, opcode 0xCB 0xAB (R303). -/
def exec_res_5_E (s : State) : Out := resetBit .n5 (.reg .e) s

/-- RES 5,H, opcode 0xCB 0xAC (R303). -/
def exec_res_5_H (s : State) : Out := resetBit .n5 (.reg .h) s

/-- RES 5,L, opcode 0xCB 0xAD (R303). -/
def exec_res_5_L (s : State) : Out := resetBit .n5 (.reg .l) s

/-- RES 5,(HL), opcode 0xCB 0xAE (R304). -/
def exec_res_5_mHL (s : State) : Out := resetBit .n5 .mHL s

/-- RES 5,A, opcode 0xCB 0xAF (R303). -/
def exec_res_5_A (s : State) : Out := resetBit .n5 (.reg .a) s

/-- RES 6,B, opcode 0xCB 0xB0 (R303). -/
def exec_res_6_B (s : State) : Out := resetBit .n6 (.reg .b) s

/-- RES 6,C, opcode 0xCB 0xB1 (R303). -/
def exec_res_6_C (s : State) : Out := resetBit .n6 (.reg .c) s

/-- RES 6,D, opcode 0xCB 0xB2 (R303). -/
def exec_res_6_D (s : State) : Out := resetBit .n6 (.reg .d) s

/-- RES 6,E, opcode 0xCB 0xB3 (R303). -/
def exec_res_6_E (s : State) : Out := resetBit .n6 (.reg .e) s

/-- RES 6,H, opcode 0xCB 0xB4 (R303). -/
def exec_res_6_H (s : State) : Out := resetBit .n6 (.reg .h) s

/-- RES 6,L, opcode 0xCB 0xB5 (R303). -/
def exec_res_6_L (s : State) : Out := resetBit .n6 (.reg .l) s

/-- RES 6,(HL), opcode 0xCB 0xB6 (R304). -/
def exec_res_6_mHL (s : State) : Out := resetBit .n6 .mHL s

/-- RES 6,A, opcode 0xCB 0xB7 (R303). -/
def exec_res_6_A (s : State) : Out := resetBit .n6 (.reg .a) s

/-- RES 7,B, opcode 0xCB 0xB8 (R303). -/
def exec_res_7_B (s : State) : Out := resetBit .n7 (.reg .b) s

/-- RES 7,C, opcode 0xCB 0xB9 (R303). -/
def exec_res_7_C (s : State) : Out := resetBit .n7 (.reg .c) s

/-- RES 7,D, opcode 0xCB 0xBA (R303). -/
def exec_res_7_D (s : State) : Out := resetBit .n7 (.reg .d) s

/-- RES 7,E, opcode 0xCB 0xBB (R303). -/
def exec_res_7_E (s : State) : Out := resetBit .n7 (.reg .e) s

/-- RES 7,H, opcode 0xCB 0xBC (R303). -/
def exec_res_7_H (s : State) : Out := resetBit .n7 (.reg .h) s

/-- RES 7,L, opcode 0xCB 0xBD (R303). -/
def exec_res_7_L (s : State) : Out := resetBit .n7 (.reg .l) s

/-- RES 7,(HL), opcode 0xCB 0xBE (R304). -/
def exec_res_7_mHL (s : State) : Out := resetBit .n7 .mHL s

/-- RES 7,A, opcode 0xCB 0xBF (R303). -/
def exec_res_7_A (s : State) : Out := resetBit .n7 (.reg .a) s

/-- SET 0,B, opcode 0xCB 0xC0 (R305). -/
def exec_set_0_B (s : State) : Out := setBit .n0 (.reg .b) s

/-- SET 0,C, opcode 0xCB 0xC1 (R305). -/
def exec_set_0_C (s : State) : Out := setBit .n0 (.reg .c) s

/-- SET 0,D, opcode 0xCB 0xC2 (R305). -/
def exec_set_0_D (s : State) : Out := setBit .n0 (.reg .d) s

/-- SET 0,E, opcode 0xCB 0xC3 (R305). -/
def exec_set_0_E (s : State) : Out := setBit .n0 (.reg .e) s

/-- SET 0,H, opcode 0xCB 0xC4 (R305). -/
def exec_set_0_H (s : State) : Out := setBit .n0 (.reg .h) s

/-- SET 0,L, opcode 0xCB 0xC5 (R305). -/
def exec_set_0_L (s : State) : Out := setBit .n0 (.reg .l) s

/-- SET 0,(HL), opcode 0xCB 0xC6 (R306). -/
def exec_set_0_mHL (s : State) : Out := setBit .n0 .mHL s

/-- SET 0,A, opcode 0xCB 0xC7 (R305). -/
def exec_set_0_A (s : State) : Out := setBit .n0 (.reg .a) s

/-- SET 1,B, opcode 0xCB 0xC8 (R305). -/
def exec_set_1_B (s : State) : Out := setBit .n1 (.reg .b) s

/-- SET 1,C, opcode 0xCB 0xC9 (R305). -/
def exec_set_1_C (s : State) : Out := setBit .n1 (.reg .c) s

/-- SET 1,D, opcode 0xCB 0xCA (R305). -/
def exec_set_1_D (s : State) : Out := setBit .n1 (.reg .d) s

/-- SET 1,E, opcode 0xCB 0xCB (R305). -/
def exec_set_1_E (s : State) : Out := setBit .n1 (.reg .e) s

/-- SET 1,H, opcode 0xCB 0xCC (R305). -/
def exec_set_1_H (s : State) : Out := setBit .n1 (.reg .h) s

/-- SET 1,L, opcode 0xCB 0xCD (R305). -/
def exec_set_1_L (s : State) : Out := setBit .n1 (.reg .l) s

/-- SET 1,(HL), opcode 0xCB 0xCE (R306). -/
def exec_set_1_mHL (s : State) : Out := setBit .n1 .mHL s

/-- SET 1,A, opcode 0xCB 0xCF (R305). -/
def exec_set_1_A (s : State) : Out := setBit .n1 (.reg .a) s

/-- SET 2,B, opcode 0xCB 0xD0 (R305). -/
def exec_set_2_B (s : State) : Out := setBit .n2 (.reg .b) s

/-- SET 2,C, opcode 0xCB 0xD1 (R305). -/
def exec_set_2_C (s : State) : Out := setBit .n2 (.reg .c) s

/-- SET 2,D, opcode 0xCB 0xD2 (R305). -/
def exec_set_2_D (s : State) : Out := setBit .n2 (.reg .d) s

/-- SET 2,E, opcode 0xCB 0xD3 (R305). -/
def exec_set_2_E (s : State) : Out := setBit .n2 (.reg .e) s

/-- SET 2,H, opcode 0xCB 0xD4 (R305). -/
def exec_set_2_H (s : State) : Out := setBit .n2 (.reg .h) s

/-- SET 2,L, opcode 0xCB 0xD5 (R305). -/
def exec_set_2_L (s : State) : Out := setBit .n2 (.reg .l) s

/-- SET 2,(HL), opcode 0xCB 0xD6 (R306). -/
def exec_set_2_mHL (s : State) : Out := setBit .n2 .mHL s

/-- SET 2,A, opcode 0xCB 0xD7 (R305). -/
def exec_set_2_A (s : State) : Out := setBit .n2 (.reg .a) s

/-- SET 3,B, opcode 0xCB 0xD8 (R305). -/
def exec_set_3_B (s : State) : Out := setBit .n3 (.reg .b) s

/-- SET 3,C, opcode 0xCB 0xD9 (R305). -/
def exec_set_3_C (s : State) : Out := setBit .n3 (.reg .c) s

/-- SET 3,D, opcode 0xCB 0xDA (R305). -/
def exec_set_3_D (s : State) : Out := setBit .n3 (.reg .d) s

/-- SET 3,E, opcode 0xCB 0xDB (R305). -/
def exec_set_3_E (s : State) : Out := setBit .n3 (.reg .e) s

/-- SET 3,H, opcode 0xCB 0xDC (R305). -/
def exec_set_3_H (s : State) : Out := setBit .n3 (.reg .h) s

/-- SET 3,L, opcode 0xCB 0xDD (R305). -/
def exec_set_3_L (s : State) : Out := setBit .n3 (.reg .l) s

/-- SET 3,(HL), opcode 0xCB 0xDE (R306). -/
def exec_set_3_mHL (s : State) : Out := setBit .n3 .mHL s

/-- SET 3,A, opcode 0xCB 0xDF (R305). -/
def exec_set_3_A (s : State) : Out := setBit .n3 (.reg .a) s

/-- SET 4,B, opcode 0xCB 0xE0 (R305). -/
def exec_set_4_B (s : State) : Out := setBit .n4 (.reg .b) s

/-- SET 4,C, opcode 0xCB 0xE1 (R305). -/
def exec_set_4_C (s : State) : Out := setBit .n4 (.reg .c) s

/-- SET 4,D, opcode 0xCB 0xE2 (R305). -/
def exec_set_4_D (s : State) : Out := setBit .n4 (.reg .d) s

/-- SET 4,E, opcode 0xCB 0xE3 (R305). -/
def exec_set_4_E (s : State) : Out := setBit .n4 (.reg .e) s

/-- SET 4,H, opcode 0xCB 0xE4 (R305). -/
def exec_set_4_H (s : State) : Out := setBit .n4 (.reg .h) s

/-- SET 4,L, opcode 0xCB 0xE5 (R305). -/
def exec_set_4_L (s : State) : Out := setBit .n4 (.reg .l) s

/-- SET 4,(HL), opcode 0xCB 0xE6 (R306). -/
def exec_set_4_mHL (s : State) : Out := setBit .n4 .mHL s

/-- SET 4,A, opcode 0xCB 0xE7 (R305). -/
def exec_set_4_A (s : State) : Out := setBit .n4 (.reg .a) s

/-- SET 5,B, opcode 0xCB 0xE8 (R305). -/
def exec_set_5_B (s : State) : Out := setBit .n5 (.reg .b) s

/-- SET 5,C, opcode 0xCB 0xE9 (R305). -/
def exec_set_5_C (s : State) : Out := setBit .n5 (.reg .c) s

/-- SET 5,D, opcode 0xCB 0xEA (R305). -/
def exec_set_5_D (s : State) : Out := setBit .n5 (.reg .d) s

/-- SET 5,E, opcode 0xCB 0xEB (R305). -/
def exec_set_5_E (s : State) : Out := setBit .n5 (.reg .e) s

/-- SET 5,H, opcode 0xCB 0xEC (R305). -/
def exec_set_5_H (s : State) : Out := setBit .n5 (.reg .h) s

/-- SET 5,L, opcode 0xCB 0xED (R305). -/
def exec_set_5_L (s : State) : Out := setBit .n5 (.reg .l) s

/-- SET 5,(HL), opcode 0xCB 0xEE (R306). -/
def exec_set_5_mHL (s : State) : Out := setBit .n5 .mHL s

/-- SET 5,A, opcode 0xCB 0xEF (R305). -/
def exec_set_5_A (s : State) : Out := setBit .n5 (.reg .a) s

/-- SET 6,B, opcode 0xCB 0xF0 (R305). -/
def exec_set_6_B (s : State) : Out := setBit .n6 (.reg .b) s

/-- SET 6,C, opcode 0xCB 0xF1 (R305). -/
def exec_set_6_C (s : State) : Out := setBit .n6 (.reg .c) s

/-- SET 6,D, opcode 0xCB 0xF2 (R305). -/
def exec_set_6_D (s : State) : Out := setBit .n6 (.reg .d) s

/-- SET 6,E, opcode 0xCB 0xF3 (R305). -/
def exec_set_6_E (s : State) : Out := setBit .n6 (.reg .e) s

/-- SET 6,H, opcode 0xCB 0xF4 (R305). -/
def exec_set_6_H (s : State) : Out := setBit .n6 (.reg .h) s

/-- SET 6,L, opcode 0xCB 0xF5 (R305). -/
def exec_set_6_L (s : State) : Out := setBit .n6 (.reg .l) s

/-- SET 6,(HL), opcode 0xCB 0xF6 (R306). -/
def exec_set_6_mHL (s : State) : Out := setBit .n6 .mHL s

/-- SET 6,A, opcode 0xCB 0xF7 (R305). -/
def exec_set_6_A (s : State) : Out := setBit .n6 (.reg .a) s

/-- SET 7,B, opcode 0xCB 0xF8 (R305). -/
def exec_set_7_B (s : State) : Out := setBit .n7 (.reg .b) s

/-- SET 7,C, opcode 0xCB 0xF9 (R305). -/
def exec_set_7_C (s : State) : Out := setBit .n7 (.reg .c) s

/-- SET 7,D, opcode 0xCB 0xFA (R305). -/
def exec_set_7_D (s : State) : Out := setBit .n7 (.reg .d) s

/-- SET 7,E, opcode 0xCB 0xFB (R305). -/
def exec_set_7_E (s : State) : Out := setBit .n7 (.reg .e) s

/-- SET 7,H, opcode 0xCB 0xFC (R305). -/
def exec_set_7_H (s : State) : Out := setBit .n7 (.reg .h) s

/-- SET 7,L, opcode 0xCB 0xFD (R305). -/
def exec_set_7_L (s : State) : Out := setBit .n7 (.reg .l) s

/-- SET 7,(HL), opcode 0xCB 0xFE (R306). -/
def exec_set_7_mHL (s : State) : Out := setBit .n7 .mHL s

/-- SET 7,A, opcode 0xCB 0xFF (R305). -/
def exec_set_7_A (s : State) : Out := setBit .n7 (.reg .a) s

end Sys2Proof.Machine
end

