-- ==== Sys2Proof/Machine/Control.lean ====
section
/-! DEFINITION. The meanings of the jumps, calls and returns (R350 to R363). -/

namespace Sys2Proof.Machine

/-- JP a16 and JP HL (R354, R356). -/
def jumpTo (target : Word) (cost : Nat) (s : State) : Out :=
  .next ((s.writePC target).spend cost)

/-- JP cc,a16 (R355). -/
def jumpIf (cc : Cond) (nn : Word) (s : State) : Out :=
  if s.cond cc then .next ((s.writePC nn).spend 4) else .next ((s.advance 3).spend 3)

/-- The target of a relative jump, `u16(NextPC(2) + sext_16(e))` (R357). -/
def State.relTarget (s : State) (e : Byte) : Word := s.nextPC 2 + sext16 e

/-- JR e8 (R357). -/
def jumpRel (e : Byte) (s : State) : Out :=
  .next ((s.writePC (s.relTarget e)).spend 3)

/-- JR cc,e8 (R358). -/
def jumpRelIf (cc : Cond) (e : Byte) (s : State) : Out :=
  if s.cond cc then .next ((s.writePC (s.relTarget e)).spend 3) else .next ((s.advance 2).spend 2)

/-- CALL a16 (R359): the address after the instruction is pushed. -/
def callTo (nn : Word) (s : State) : Out :=
  .next (((s.push16 (s.nextPC 3)).writePC nn).spend 6)

/-- CALL cc,a16 (R360): not taken, SP and memory are unchanged. -/
def callIf (cc : Cond) (nn : Word) (s : State) : Out :=
  if s.cond cc then .next (((s.push16 (s.nextPC 3)).writePC nn).spend 6) else .next ((s.advance 3).spend 3)

/-- RET (R361). -/
def returnSub (s : State) : Out :=
  let r := s.pop16
  .next ((r.2.writePC r.1).spend 4)

/-- RET cc (R362): not taken, nothing is read and SP is unchanged. -/
def returnIf (cc : Cond) (s : State) : Out :=
  if s.cond cc then
    let r := s.pop16
    .next ((r.2.writePC r.1).spend 5)
  else .next ((s.advance 1).spend 2)

/-- RST t (R363). -/
def restart (y : Sel3) (s : State) : Out :=
  .next (((s.push16 (s.nextPC 1)).writePC (rstTarget y)).spend 4)

/-- JR e8, opcode 0x18 (R357). -/
def exec_jr_e8 (e : Byte) (s : State) : Out := jumpRel e s

/-- JR NZ,e8, opcode 0x20 (R358). -/
def exec_jr_NZ_e8 (e : Byte) (s : State) : Out := jumpRelIf .nz e s

/-- JR Z,e8, opcode 0x28 (R358). -/
def exec_jr_Z_e8 (e : Byte) (s : State) : Out := jumpRelIf .z e s

/-- JR NC,e8, opcode 0x30 (R358). -/
def exec_jr_NC_e8 (e : Byte) (s : State) : Out := jumpRelIf .nc e s

/-- JR C,e8, opcode 0x38 (R358). -/
def exec_jr_C_e8 (e : Byte) (s : State) : Out := jumpRelIf .c e s

/-- RET NZ, opcode 0xC0 (R362). -/
def exec_ret_NZ (s : State) : Out := returnIf .nz s

/-- JP NZ,a16, opcode 0xC2 (R355). -/
def exec_jp_NZ_a16 (nn : Word) (s : State) : Out := jumpIf .nz nn s

/-- JP a16, opcode 0xC3 (R354). -/
def exec_jp_a16 (nn : Word) (s : State) : Out := jumpTo nn 4 s

/-- CALL NZ,a16, opcode 0xC4 (R360). -/
def exec_call_NZ_a16 (nn : Word) (s : State) : Out := callIf .nz nn s

/-- RST 0x00, opcode 0xC7 (R363). -/
def exec_rst_00 (s : State) : Out := restart .n0 s

/-- RET Z, opcode 0xC8 (R362). -/
def exec_ret_Z (s : State) : Out := returnIf .z s

/-- RET, opcode 0xC9 (R361). -/
def exec_ret (s : State) : Out := returnSub s

/-- JP Z,a16, opcode 0xCA (R355). -/
def exec_jp_Z_a16 (nn : Word) (s : State) : Out := jumpIf .z nn s

/-- CALL Z,a16, opcode 0xCC (R360). -/
def exec_call_Z_a16 (nn : Word) (s : State) : Out := callIf .z nn s

/-- CALL a16, opcode 0xCD (R359). -/
def exec_call_a16 (nn : Word) (s : State) : Out := callTo nn s

/-- RST 0x08, opcode 0xCF (R363). -/
def exec_rst_08 (s : State) : Out := restart .n1 s

/-- RET NC, opcode 0xD0 (R362). -/
def exec_ret_NC (s : State) : Out := returnIf .nc s

/-- JP NC,a16, opcode 0xD2 (R355). -/
def exec_jp_NC_a16 (nn : Word) (s : State) : Out := jumpIf .nc nn s

/-- CALL NC,a16, opcode 0xD4 (R360). -/
def exec_call_NC_a16 (nn : Word) (s : State) : Out := callIf .nc nn s

/-- RST 0x10, opcode 0xD7 (R363). -/
def exec_rst_10 (s : State) : Out := restart .n2 s

/-- RET C, opcode 0xD8 (R362). -/
def exec_ret_C (s : State) : Out := returnIf .c s

/-- JP C,a16, opcode 0xDA (R355). -/
def exec_jp_C_a16 (nn : Word) (s : State) : Out := jumpIf .c nn s

/-- CALL C,a16, opcode 0xDC (R360). -/
def exec_call_C_a16 (nn : Word) (s : State) : Out := callIf .c nn s

/-- RST 0x18, opcode 0xDF (R363). -/
def exec_rst_18 (s : State) : Out := restart .n3 s

/-- RST 0x20, opcode 0xE7 (R363). -/
def exec_rst_20 (s : State) : Out := restart .n4 s

/-- JP HL, opcode 0xE9 (R356). -/
def exec_jp_HL (s : State) : Out := jumpTo s.hl 1 s

/-- RST 0x28, opcode 0xEF (R363). -/
def exec_rst_28 (s : State) : Out := restart .n5 s

/-- RST 0x30, opcode 0xF7 (R363). -/
def exec_rst_30 (s : State) : Out := restart .n6 s

/-- RST 0x38, opcode 0xFF (R363). -/
def exec_rst_38 (s : State) : Out := restart .n7 s

end Sys2Proof.Machine
end

