-- ==== Sys2Proof/Machine/CpuControl.lean ====
section
/-! DEFINITION. The meanings of NOP, DI, EI, RETI, HALT and STOP (R380 to R385), and of the 11 invalid opcodes (R401). -/

namespace Sys2Proof.Machine

/-- EI (R382): ENABLED stays ENABLED (D7). -/
def enableIme (s : State) : State :=
  if s.ime ≠ .enabled then { s with ime := .pending } else s

/-- HALT (R384): with a request and IME not ENABLED it sets the halt-bug latch instead of halting. -/
def haltCore (s : State) : State :=
  let s1 := s.advance 1
  if s.irqPending then
    if s.ime ≠ .enabled then { s1 with haltBug := true } else s1
  else { s1 with halted := true }

/-- NOP, opcode 0x00 (R380). -/
def exec_nop (s : State) : Out := .next ((s.advance 1).spend 1)

/-- STOP, opcode 0x10 (R385). -/
def exec_stop (_n : Byte) (s : State) : Out := .next ((({ s with stopped := true }).advance 2).spend 1)

/-- HALT, opcode 0x76 (R384). -/
def exec_halt (s : State) : Out := .next ((haltCore s).spend 1)

/-- The 11 invalid opcodes: `InvalidOpcode(op, false)`, and nothing changes after the fetch of the byte (R401, R79). -/
def exec_invalid (op : Byte) (s : State) : Out := .fault (.invalidOpcode op false s)

/-- RETI, opcode 0xD9 (R383). -/
def exec_reti (s : State) : Out := .next ((returnFromInterrupt s).spend 4)

/-- DI, opcode 0xF3 (R381). -/
def exec_di (s : State) : Out := .next ((({ s with ime := .disabled }).advance 1).spend 1)

/-- EI, opcode 0xFB (R382). -/
def exec_ei (s : State) : Out := .next (((enableIme s).advance 1).spend 1)

end Sys2Proof.Machine
end

