-- ==== Sys2Proof/Machine/Loads16.lean ====
section
/-! DEFINITION. The meanings of the 16-bit loads and the stack instructions (R200 to R209). -/

namespace Sys2Proof.Machine

/-- LD rr,d16 (R203). -/
def ldPairImm (dst : Reg16) (nn : Word) (s : State) : Out :=
  .next (((s.set16 dst nn).advance 3).spend 3)

/-- LD (a16),SP (R204): the low byte at a16, then the high byte at a16+1. -/
def ldMemSP (nn : Word) (s : State) : Out :=
  let s1 := s.busWrite nn (lo s.sp)
  .next (((s1.busWrite (nn + 1) (hi s1.sp)).advance 3).spend 5)

/-- LD SP,HL (R205). -/
def ldSPHL (s : State) : Out :=
  .next ((({ s with sp := s.hl }).advance 1).spend 2)

/-- LD HL,SP+e8 (R206). -/
def ldHLSPe (e : Byte) (s : State) : Out :=
  let r := addSPe s.sp e
  .next ((((s.setHL r.result).setFlags false false r.halfcarry r.carry).advance 2).spend 3)

/-- PUSH rr (R207). -/
def pushPair (r : Reg16S) (s : State) : Out :=
  .next (((s.push16 (s.get16s r)).advance 1).spend 4)

/-- POP rr and POP AF (R208, R209). -/
def popPair (dst : Reg16S) (s : State) : Out :=
  let r := s.pop16
  .next (((r.2.set16s dst r.1).advance 1).spend 3)

/-- LD BC,d16, opcode 0x01 (R203). -/
def exec_ld_BC_d16 (nn : Word) (s : State) : Out := ldPairImm .bc nn s

/-- LD (a16),SP, opcode 0x08 (R204). -/
def exec_ld_ma16_SP (nn : Word) (s : State) : Out := ldMemSP nn s

/-- LD DE,d16, opcode 0x11 (R203). -/
def exec_ld_DE_d16 (nn : Word) (s : State) : Out := ldPairImm .de nn s

/-- LD HL,d16, opcode 0x21 (R203). -/
def exec_ld_HL_d16 (nn : Word) (s : State) : Out := ldPairImm .hl nn s

/-- LD SP,d16, opcode 0x31 (R203). -/
def exec_ld_SP_d16 (nn : Word) (s : State) : Out := ldPairImm .sp nn s

/-- POP BC, opcode 0xC1 (R208). -/
def exec_pop_BC (s : State) : Out := popPair .bc s

/-- PUSH BC, opcode 0xC5 (R207). -/
def exec_push_BC (s : State) : Out := pushPair .bc s

/-- POP DE, opcode 0xD1 (R208). -/
def exec_pop_DE (s : State) : Out := popPair .de s

/-- PUSH DE, opcode 0xD5 (R207). -/
def exec_push_DE (s : State) : Out := pushPair .de s

/-- POP HL, opcode 0xE1 (R208). -/
def exec_pop_HL (s : State) : Out := popPair .hl s

/-- PUSH HL, opcode 0xE5 (R207). -/
def exec_push_HL (s : State) : Out := pushPair .hl s

/-- POP AF, opcode 0xF1 (R209). -/
def exec_pop_AF (s : State) : Out := popPair .af s

/-- PUSH AF, opcode 0xF5 (R207). -/
def exec_push_AF (s : State) : Out := pushPair .af s

/-- LD HL,SP+e8, opcode 0xF8 (R206). -/
def exec_ld_HL_SPe8 (e : Byte) (s : State) : Out := ldHLSPe e s

/-- LD SP,HL, opcode 0xF9 (R205). -/
def exec_ld_SP_HL (s : State) : Out := ldSPHL s

end Sys2Proof.Machine
end

