-- ==== Sys2Proof/Machine/Loads8.lean ====
section
/-! DEFINITION. The meanings of the 8-bit loads (R160 to R179). -/

namespace Sys2Proof.Machine

/-- LD r,r' (R161). -/
def ldRegReg (dst r : Reg8) (s : State) : Out :=
  .next (((s.set8 dst (s.get8 r)).advance 1).spend 1)

/-- LD r,d8 (R162). -/
def ldRegImm (dst : Reg8) (n : Byte) (s : State) : Out :=
  .next (((s.set8 dst n).advance 2).spend 2)

/-- LD r,(HL) (R163): the address is taken before the load replaces half of HL (R77). -/
def ldRegMem (dst : Reg8) (s : State) : Out :=
  let r := s.busRead s.hl
  .next (((r.2.set8 dst r.1).advance 1).spend 2)

/-- LD (HL),r (R164). -/
def ldMemReg (r : Reg8) (s : State) : Out :=
  .next (((s.busWrite s.hl (s.get8 r)).advance 1).spend 2)

/-- LD (HL),d8 (R165). -/
def ldMemImm (n : Byte) (s : State) : Out :=
  .next (((s.busWrite s.hl n).advance 2).spend 3)

/-- A load of A from `addr`, by an instruction of the given length and cost (R166, R167, R174, R176, R178). -/
def loadA (addr : Word) (len cost : Nat) (s : State) : Out :=
  let r := s.busRead addr
  .next (((r.2.set8 .a r.1).advance len).spend cost)

/-- A store of A at `addr`, by an instruction of the given length and cost (R168, R169, R175, R177, R179). -/
def storeA (addr : Word) (len cost : Nat) (s : State) : Out :=
  .next (((s.busWrite addr s.a).advance len).spend cost)

/-- LD A,(HL+) and LD A,(HL-): the load at the old HL, then HL moves by `delta` (R77, R170, R171). -/
def loadAPost (delta : Word) (s : State) : Out :=
  let r := s.busRead s.hl
  .next ((((r.2.set8 .a r.1).setHL (s.hl + delta)).advance 1).spend 2)

/-- LD (HL+),A and LD (HL-),A: the store at the old HL, then HL moves by `delta` (R77, R172, R173). -/
def storeAPost (delta : Word) (s : State) : Out :=
  .next ((((s.busWrite s.hl s.a).setHL (s.hl + delta)).advance 1).spend 2)

/-- LD (BC),A, opcode 0x02 (R168). -/
def exec_ld_mBC_A (s : State) : Out := storeA s.bc 1 2 s

/-- LD B,d8, opcode 0x06 (R162). -/
def exec_ld_B_d8 (n : Byte) (s : State) : Out := ldRegImm .b n s

/-- LD A,(BC), opcode 0x0A (R166). -/
def exec_ld_A_mBC (s : State) : Out := loadA s.bc 1 2 s

/-- LD C,d8, opcode 0x0E (R162). -/
def exec_ld_C_d8 (n : Byte) (s : State) : Out := ldRegImm .c n s

/-- LD (DE),A, opcode 0x12 (R169). -/
def exec_ld_mDE_A (s : State) : Out := storeA s.de 1 2 s

/-- LD D,d8, opcode 0x16 (R162). -/
def exec_ld_D_d8 (n : Byte) (s : State) : Out := ldRegImm .d n s

/-- LD A,(DE), opcode 0x1A (R167). -/
def exec_ld_A_mDE (s : State) : Out := loadA s.de 1 2 s

/-- LD E,d8, opcode 0x1E (R162). -/
def exec_ld_E_d8 (n : Byte) (s : State) : Out := ldRegImm .e n s

/-- LD (HL+),A, opcode 0x22 (R172). -/
def exec_ld_mHLinc_A (s : State) : Out := storeAPost 1 s

/-- LD H,d8, opcode 0x26 (R162). -/
def exec_ld_H_d8 (n : Byte) (s : State) : Out := ldRegImm .h n s

/-- LD A,(HL+), opcode 0x2A (R170). -/
def exec_ld_A_mHLinc (s : State) : Out := loadAPost 1 s

/-- LD L,d8, opcode 0x2E (R162). -/
def exec_ld_L_d8 (n : Byte) (s : State) : Out := ldRegImm .l n s

/-- LD (HL-),A, opcode 0x32 (R173). -/
def exec_ld_mHLdec_A (s : State) : Out := storeAPost 0xFFFF s

/-- LD (HL),d8, opcode 0x36 (R165). -/
def exec_ld_mHL_d8 (n : Byte) (s : State) : Out := ldMemImm n s

/-- LD A,(HL-), opcode 0x3A (R171). -/
def exec_ld_A_mHLdec (s : State) : Out := loadAPost 0xFFFF s

/-- LD A,d8, opcode 0x3E (R162). -/
def exec_ld_A_d8 (n : Byte) (s : State) : Out := ldRegImm .a n s

/-- LD B,B, opcode 0x40 (R161). -/
def exec_ld_B_B (s : State) : Out := ldRegReg .b .b s

/-- LD B,C, opcode 0x41 (R161). -/
def exec_ld_B_C (s : State) : Out := ldRegReg .b .c s

/-- LD B,D, opcode 0x42 (R161). -/
def exec_ld_B_D (s : State) : Out := ldRegReg .b .d s

/-- LD B,E, opcode 0x43 (R161). -/
def exec_ld_B_E (s : State) : Out := ldRegReg .b .e s

/-- LD B,H, opcode 0x44 (R161). -/
def exec_ld_B_H (s : State) : Out := ldRegReg .b .h s

/-- LD B,L, opcode 0x45 (R161). -/
def exec_ld_B_L (s : State) : Out := ldRegReg .b .l s

/-- LD B,(HL), opcode 0x46 (R163). -/
def exec_ld_B_mHL (s : State) : Out := ldRegMem .b s

/-- LD B,A, opcode 0x47 (R161). -/
def exec_ld_B_A (s : State) : Out := ldRegReg .b .a s

/-- LD C,B, opcode 0x48 (R161). -/
def exec_ld_C_B (s : State) : Out := ldRegReg .c .b s

/-- LD C,C, opcode 0x49 (R161). -/
def exec_ld_C_C (s : State) : Out := ldRegReg .c .c s

/-- LD C,D, opcode 0x4A (R161). -/
def exec_ld_C_D (s : State) : Out := ldRegReg .c .d s

/-- LD C,E, opcode 0x4B (R161). -/
def exec_ld_C_E (s : State) : Out := ldRegReg .c .e s

/-- LD C,H, opcode 0x4C (R161). -/
def exec_ld_C_H (s : State) : Out := ldRegReg .c .h s

/-- LD C,L, opcode 0x4D (R161). -/
def exec_ld_C_L (s : State) : Out := ldRegReg .c .l s

/-- LD C,(HL), opcode 0x4E (R163). -/
def exec_ld_C_mHL (s : State) : Out := ldRegMem .c s

/-- LD C,A, opcode 0x4F (R161). -/
def exec_ld_C_A (s : State) : Out := ldRegReg .c .a s

/-- LD D,B, opcode 0x50 (R161). -/
def exec_ld_D_B (s : State) : Out := ldRegReg .d .b s

/-- LD D,C, opcode 0x51 (R161). -/
def exec_ld_D_C (s : State) : Out := ldRegReg .d .c s

/-- LD D,D, opcode 0x52 (R161). -/
def exec_ld_D_D (s : State) : Out := ldRegReg .d .d s

/-- LD D,E, opcode 0x53 (R161). -/
def exec_ld_D_E (s : State) : Out := ldRegReg .d .e s

/-- LD D,H, opcode 0x54 (R161). -/
def exec_ld_D_H (s : State) : Out := ldRegReg .d .h s

/-- LD D,L, opcode 0x55 (R161). -/
def exec_ld_D_L (s : State) : Out := ldRegReg .d .l s

/-- LD D,(HL), opcode 0x56 (R163). -/
def exec_ld_D_mHL (s : State) : Out := ldRegMem .d s

/-- LD D,A, opcode 0x57 (R161). -/
def exec_ld_D_A (s : State) : Out := ldRegReg .d .a s

/-- LD E,B, opcode 0x58 (R161). -/
def exec_ld_E_B (s : State) : Out := ldRegReg .e .b s

/-- LD E,C, opcode 0x59 (R161). -/
def exec_ld_E_C (s : State) : Out := ldRegReg .e .c s

/-- LD E,D, opcode 0x5A (R161). -/
def exec_ld_E_D (s : State) : Out := ldRegReg .e .d s

/-- LD E,E, opcode 0x5B (R161). -/
def exec_ld_E_E (s : State) : Out := ldRegReg .e .e s

/-- LD E,H, opcode 0x5C (R161). -/
def exec_ld_E_H (s : State) : Out := ldRegReg .e .h s

/-- LD E,L, opcode 0x5D (R161). -/
def exec_ld_E_L (s : State) : Out := ldRegReg .e .l s

/-- LD E,(HL), opcode 0x5E (R163). -/
def exec_ld_E_mHL (s : State) : Out := ldRegMem .e s

/-- LD E,A, opcode 0x5F (R161). -/
def exec_ld_E_A (s : State) : Out := ldRegReg .e .a s

/-- LD H,B, opcode 0x60 (R161). -/
def exec_ld_H_B (s : State) : Out := ldRegReg .h .b s

/-- LD H,C, opcode 0x61 (R161). -/
def exec_ld_H_C (s : State) : Out := ldRegReg .h .c s

/-- LD H,D, opcode 0x62 (R161). -/
def exec_ld_H_D (s : State) : Out := ldRegReg .h .d s

/-- LD H,E, opcode 0x63 (R161). -/
def exec_ld_H_E (s : State) : Out := ldRegReg .h .e s

/-- LD H,H, opcode 0x64 (R161). -/
def exec_ld_H_H (s : State) : Out := ldRegReg .h .h s

/-- LD H,L, opcode 0x65 (R161). -/
def exec_ld_H_L (s : State) : Out := ldRegReg .h .l s

/-- LD H,(HL), opcode 0x66 (R163). -/
def exec_ld_H_mHL (s : State) : Out := ldRegMem .h s

/-- LD H,A, opcode 0x67 (R161). -/
def exec_ld_H_A (s : State) : Out := ldRegReg .h .a s

/-- LD L,B, opcode 0x68 (R161). -/
def exec_ld_L_B (s : State) : Out := ldRegReg .l .b s

/-- LD L,C, opcode 0x69 (R161). -/
def exec_ld_L_C (s : State) : Out := ldRegReg .l .c s

/-- LD L,D, opcode 0x6A (R161). -/
def exec_ld_L_D (s : State) : Out := ldRegReg .l .d s

/-- LD L,E, opcode 0x6B (R161). -/
def exec_ld_L_E (s : State) : Out := ldRegReg .l .e s

/-- LD L,H, opcode 0x6C (R161). -/
def exec_ld_L_H (s : State) : Out := ldRegReg .l .h s

/-- LD L,L, opcode 0x6D (R161). -/
def exec_ld_L_L (s : State) : Out := ldRegReg .l .l s

/-- LD L,(HL), opcode 0x6E (R163). -/
def exec_ld_L_mHL (s : State) : Out := ldRegMem .l s

/-- LD L,A, opcode 0x6F (R161). -/
def exec_ld_L_A (s : State) : Out := ldRegReg .l .a s

/-- LD (HL),B, opcode 0x70 (R164). -/
def exec_ld_mHL_B (s : State) : Out := ldMemReg .b s

/-- LD (HL),C, opcode 0x71 (R164). -/
def exec_ld_mHL_C (s : State) : Out := ldMemReg .c s

/-- LD (HL),D, opcode 0x72 (R164). -/
def exec_ld_mHL_D (s : State) : Out := ldMemReg .d s

/-- LD (HL),E, opcode 0x73 (R164). -/
def exec_ld_mHL_E (s : State) : Out := ldMemReg .e s

/-- LD (HL),H, opcode 0x74 (R164). -/
def exec_ld_mHL_H (s : State) : Out := ldMemReg .h s

/-- LD (HL),L, opcode 0x75 (R164). -/
def exec_ld_mHL_L (s : State) : Out := ldMemReg .l s

/-- LD (HL),A, opcode 0x77 (R164). -/
def exec_ld_mHL_A (s : State) : Out := ldMemReg .a s

/-- LD A,B, opcode 0x78 (R161). -/
def exec_ld_A_B (s : State) : Out := ldRegReg .a .b s

/-- LD A,C, opcode 0x79 (R161). -/
def exec_ld_A_C (s : State) : Out := ldRegReg .a .c s

/-- LD A,D, opcode 0x7A (R161). -/
def exec_ld_A_D (s : State) : Out := ldRegReg .a .d s

/-- LD A,E, opcode 0x7B (R161). -/
def exec_ld_A_E (s : State) : Out := ldRegReg .a .e s

/-- LD A,H, opcode 0x7C (R161). -/
def exec_ld_A_H (s : State) : Out := ldRegReg .a .h s

/-- LD A,L, opcode 0x7D (R161). -/
def exec_ld_A_L (s : State) : Out := ldRegReg .a .l s

/-- LD A,(HL), opcode 0x7E (R163). -/
def exec_ld_A_mHL (s : State) : Out := ldRegMem .a s

/-- LD A,A, opcode 0x7F (R161). -/
def exec_ld_A_A (s : State) : Out := ldRegReg .a .a s

/-- LDH (a8),A, opcode 0xE0 (R177). -/
def exec_ldh_ma8_A (n : Byte) (s : State) : Out := storeA (highPage n) 2 3 s

/-- LD (C),A, opcode 0xE2 (R179). -/
def exec_ld_mC_A (s : State) : Out := storeA (highPage s.c) 1 2 s

/-- LD (a16),A, opcode 0xEA (R175). -/
def exec_ld_ma16_A (nn : Word) (s : State) : Out := storeA nn 3 4 s

/-- LDH A,(a8), opcode 0xF0 (R176). -/
def exec_ldh_A_ma8 (n : Byte) (s : State) : Out := loadA (highPage n) 2 3 s

/-- LD A,(C), opcode 0xF2 (R178). -/
def exec_ld_A_mC (s : State) : Out := loadA (highPage s.c) 1 2 s

/-- LD A,(a16), opcode 0xFA (R174). -/
def exec_ld_A_ma16 (nn : Word) (s : State) : Out := loadA nn 3 4 s

end Sys2Proof.Machine
end

