-- ==== Sys2Proof/Machine/Logic.lean ====
section
/-! DEFINITION. The meanings of the bitwise logic instructions (R280 to R290); AND, XOR and OR are ALU instructions of R230. -/

namespace Sys2Proof.Machine

/-- CPL (R290): N = 1, H = 1, Z and C unaffected. -/
def complementA (s : State) : Out :=
  .next ((((s.set8 .a (s.a ^^^ 0xFF)).setFlags s.flagZ true true s.flagC).advance 1).spend 1)

/-- CPL, opcode 0x2F (R290). -/
def exec_cpl (s : State) : Out := complementA s

/-- AND B, opcode 0xA0 (R281). -/
def exec_and_B (s : State) : Out := aluA .and (.reg .b) s

/-- AND C, opcode 0xA1 (R281). -/
def exec_and_C (s : State) : Out := aluA .and (.reg .c) s

/-- AND D, opcode 0xA2 (R281). -/
def exec_and_D (s : State) : Out := aluA .and (.reg .d) s

/-- AND E, opcode 0xA3 (R281). -/
def exec_and_E (s : State) : Out := aluA .and (.reg .e) s

/-- AND H, opcode 0xA4 (R281). -/
def exec_and_H (s : State) : Out := aluA .and (.reg .h) s

/-- AND L, opcode 0xA5 (R281). -/
def exec_and_L (s : State) : Out := aluA .and (.reg .l) s

/-- AND (HL), opcode 0xA6 (R282). -/
def exec_and_mHL (s : State) : Out := aluA .and .mHL s

/-- AND A, opcode 0xA7 (R281). -/
def exec_and_A (s : State) : Out := aluA .and (.reg .a) s

/-- XOR B, opcode 0xA8 (R284). -/
def exec_xor_B (s : State) : Out := aluA .xor (.reg .b) s

/-- XOR C, opcode 0xA9 (R284). -/
def exec_xor_C (s : State) : Out := aluA .xor (.reg .c) s

/-- XOR D, opcode 0xAA (R284). -/
def exec_xor_D (s : State) : Out := aluA .xor (.reg .d) s

/-- XOR E, opcode 0xAB (R284). -/
def exec_xor_E (s : State) : Out := aluA .xor (.reg .e) s

/-- XOR H, opcode 0xAC (R284). -/
def exec_xor_H (s : State) : Out := aluA .xor (.reg .h) s

/-- XOR L, opcode 0xAD (R284). -/
def exec_xor_L (s : State) : Out := aluA .xor (.reg .l) s

/-- XOR (HL), opcode 0xAE (R285). -/
def exec_xor_mHL (s : State) : Out := aluA .xor .mHL s

/-- XOR A, opcode 0xAF (R284). -/
def exec_xor_A (s : State) : Out := aluA .xor (.reg .a) s

/-- OR B, opcode 0xB0 (R287). -/
def exec_or_B (s : State) : Out := aluA .or (.reg .b) s

/-- OR C, opcode 0xB1 (R287). -/
def exec_or_C (s : State) : Out := aluA .or (.reg .c) s

/-- OR D, opcode 0xB2 (R287). -/
def exec_or_D (s : State) : Out := aluA .or (.reg .d) s

/-- OR E, opcode 0xB3 (R287). -/
def exec_or_E (s : State) : Out := aluA .or (.reg .e) s

/-- OR H, opcode 0xB4 (R287). -/
def exec_or_H (s : State) : Out := aluA .or (.reg .h) s

/-- OR L, opcode 0xB5 (R287). -/
def exec_or_L (s : State) : Out := aluA .or (.reg .l) s

/-- OR (HL), opcode 0xB6 (R288). -/
def exec_or_mHL (s : State) : Out := aluA .or .mHL s

/-- OR A, opcode 0xB7 (R287). -/
def exec_or_A (s : State) : Out := aluA .or (.reg .a) s

/-- AND d8, opcode 0xE6 (R283). -/
def exec_and_d8 (n : Byte) (s : State) : Out := aluA .and (.d8 n) s

/-- XOR d8, opcode 0xEE (R286). -/
def exec_xor_d8 (n : Byte) (s : State) : Out := aluA .xor (.d8 n) s

/-- OR d8, opcode 0xF6 (R289). -/
def exec_or_d8 (n : Byte) (s : State) : Out := aluA .or (.d8 n) s

end Sys2Proof.Machine
end

