-- ==== Sys2Proof/Machine/Rotate.lean ====
section
/-! DEFINITION. The meanings of the rotates and shifts (R320 to R340). -/

namespace Sys2Proof.Machine

/-- Z after an accumulator rotate (R320, parameter `ACC_ROT_Z`). -/
def State.accRotFlagZ (s : State) : Bool :=
  match s.params.accRotZ with
  | .preserve => s.flagZ
  | .clear => false

/-- RLCA, RRCA, RLA and RRA (R321 to R324). -/
def rotateA (op : RotOp) (s : State) : Out :=
  let o := rotOut op s.a s.flagC
  .next ((((s.set8 .a o.result).setFlags s.accRotFlagZ false false o.carry).advance 1).spend 1)

/-- The prefixed rotates and shifts of a register or of the byte at HL, which is read first and then written (R325 to R340). -/
def rotateLoc (op : RotOp) (loc : Loc8) (s : State) : Out :=
  let r := s.readLoc loc
  let o := rotOut op r.1 s.flagC
  .next ((((r.2.writeLoc loc o.result).setFlags (decide (o.result = 0)) false false o.carry).advance 2).spend (cbCost loc))

/-- RLCA, opcode 0x07 (R321). -/
def exec_rlca (s : State) : Out := rotateA .rlc s

/-- RRCA, opcode 0x0F (R322). -/
def exec_rrca (s : State) : Out := rotateA .rrc s

/-- RLA, opcode 0x17 (R323). -/
def exec_rla (s : State) : Out := rotateA .rl s

/-- RRA, opcode 0x1F (R324). -/
def exec_rra (s : State) : Out := rotateA .rr s

/-- RLC B, opcode 0xCB 0x00 (R325). -/
def exec_rlc_B (s : State) : Out := rotateLoc .rlc (.reg .b) s

/-- RLC C, opcode 0xCB 0x01 (R325). -/
def exec_rlc_C (s : State) : Out := rotateLoc .rlc (.reg .c) s

/-- RLC D, opcode 0xCB 0x02 (R325). -/
def exec_rlc_D (s : State) : Out := rotateLoc .rlc (.reg .d) s

/-- RLC E, opcode 0xCB 0x03 (R325). -/
def exec_rlc_E (s : State) : Out := rotateLoc .rlc (.reg .e) s

/-- RLC H, opcode 0xCB 0x04 (R325). -/
def exec_rlc_H (s : State) : Out := rotateLoc .rlc (.reg .h) s

/-- RLC L, opcode 0xCB 0x05 (R325). -/
def exec_rlc_L (s : State) : Out := rotateLoc .rlc (.reg .l) s

/-- RLC (HL), opcode 0xCB 0x06 (R326). -/
def exec_rlc_mHL (s : State) : Out := rotateLoc .rlc .mHL s

/-- RLC A, opcode 0xCB 0x07 (R325). -/
def exec_rlc_A (s : State) : Out := rotateLoc .rlc (.reg .a) s

/-- RRC B, opcode 0xCB 0x08 (R327). -/
def exec_rrc_B (s : State) : Out := rotateLoc .rrc (.reg .b) s

/-- RRC C, opcode 0xCB 0x09 (R327). -/
def exec_rrc_C (s : State) : Out := rotateLoc .rrc (.reg .c) s

/-- RRC D, opcode 0xCB 0x0A (R327). -/
def exec_rrc_D (s : State) : Out := rotateLoc .rrc (.reg .d) s

/-- RRC E, opcode 0xCB 0x0B (R327). -/
def exec_rrc_E (s : State) : Out := rotateLoc .rrc (.reg .e) s

/-- RRC H, opcode 0xCB 0x0C (R327). -/
def exec_rrc_H (s : State) : Out := rotateLoc .rrc (.reg .h) s

/-- RRC L, opcode 0xCB 0x0D (R327). -/
def exec_rrc_L (s : State) : Out := rotateLoc .rrc (.reg .l) s

/-- RRC (HL), opcode 0xCB 0x0E (R328). -/
def exec_rrc_mHL (s : State) : Out := rotateLoc .rrc .mHL s

/-- RRC A, opcode 0xCB 0x0F (R327). -/
def exec_rrc_A (s : State) : Out := rotateLoc .rrc (.reg .a) s

/-- RL B, opcode 0xCB 0x10 (R329). -/
def exec_rl_B (s : State) : Out := rotateLoc .rl (.reg .b) s

/-- RL C, opcode 0xCB 0x11 (R329). -/
def exec_rl_C (s : State) : Out := rotateLoc .rl (.reg .c) s

/-- RL D, opcode 0xCB 0x12 (R329). -/
def exec_rl_D (s : State) : Out := rotateLoc .rl (.reg .d) s

/-- RL E, opcode 0xCB 0x13 (R329). -/
def exec_rl_E (s : State) : Out := rotateLoc .rl (.reg .e) s

/-- RL H, opcode 0xCB 0x14 (R329). -/
def exec_rl_H (s : State) : Out := rotateLoc .rl (.reg .h) s

/-- RL L, opcode 0xCB 0x15 (R329). -/
def exec_rl_L (s : State) : Out := rotateLoc .rl (.reg .l) s

/-- RL (HL), opcode 0xCB 0x16 (R330). -/
def exec_rl_mHL (s : State) : Out := rotateLoc .rl .mHL s

/-- RL A, opcode 0xCB 0x17 (R329). -/
def exec_rl_A (s : State) : Out := rotateLoc .rl (.reg .a) s

/-- RR B, opcode 0xCB 0x18 (R331). -/
def exec_rr_B (s : State) : Out := rotateLoc .rr (.reg .b) s

/-- RR C, opcode 0xCB 0x19 (R331). -/
def exec_rr_C (s : State) : Out := rotateLoc .rr (.reg .c) s

/-- RR D, opcode 0xCB 0x1A (R331). -/
def exec_rr_D (s : State) : Out := rotateLoc .rr (.reg .d) s

/-- RR E, opcode 0xCB 0x1B (R331). -/
def exec_rr_E (s : State) : Out := rotateLoc .rr (.reg .e) s

/-- RR H, opcode 0xCB 0x1C (R331). -/
def exec_rr_H (s : State) : Out := rotateLoc .rr (.reg .h) s

/-- RR L, opcode 0xCB 0x1D (R331). -/
def exec_rr_L (s : State) : Out := rotateLoc .rr (.reg .l) s

/-- RR (HL), opcode 0xCB 0x1E (R332). -/
def exec_rr_mHL (s : State) : Out := rotateLoc .rr .mHL s

/-- RR A, opcode 0xCB 0x1F (R331). -/
def exec_rr_A (s : State) : Out := rotateLoc .rr (.reg .a) s

/-- SLA B, opcode 0xCB 0x20 (R333). -/
def exec_sla_B (s : State) : Out := rotateLoc .sla (.reg .b) s

/-- SLA C, opcode 0xCB 0x21 (R333). -/
def exec_sla_C (s : State) : Out := rotateLoc .sla (.reg .c) s

/-- SLA D, opcode 0xCB 0x22 (R333). -/
def exec_sla_D (s : State) : Out := rotateLoc .sla (.reg .d) s

/-- SLA E, opcode 0xCB 0x23 (R333). -/
def exec_sla_E (s : State) : Out := rotateLoc .sla (.reg .e) s

/-- SLA H, opcode 0xCB 0x24 (R333). -/
def exec_sla_H (s : State) : Out := rotateLoc .sla (.reg .h) s

/-- SLA L, opcode 0xCB 0x25 (R333). -/
def exec_sla_L (s : State) : Out := rotateLoc .sla (.reg .l) s

/-- SLA (HL), opcode 0xCB 0x26 (R334). -/
def exec_sla_mHL (s : State) : Out := rotateLoc .sla .mHL s

/-- SLA A, opcode 0xCB 0x27 (R333). -/
def exec_sla_A (s : State) : Out := rotateLoc .sla (.reg .a) s

/-- SRA B, opcode 0xCB 0x28 (R335). -/
def exec_sra_B (s : State) : Out := rotateLoc .sra (.reg .b) s

/-- SRA C, opcode 0xCB 0x29 (R335). -/
def exec_sra_C (s : State) : Out := rotateLoc .sra (.reg .c) s

/-- SRA D, opcode 0xCB 0x2A (R335). -/
def exec_sra_D (s : State) : Out := rotateLoc .sra (.reg .d) s

/-- SRA E, opcode 0xCB 0x2B (R335). -/
def exec_sra_E (s : State) : Out := rotateLoc .sra (.reg .e) s

/-- SRA H, opcode 0xCB 0x2C (R335). -/
def exec_sra_H (s : State) : Out := rotateLoc .sra (.reg .h) s

/-- SRA L, opcode 0xCB 0x2D (R335). -/
def exec_sra_L (s : State) : Out := rotateLoc .sra (.reg .l) s

/-- SRA (HL), opcode 0xCB 0x2E (R336). -/
def exec_sra_mHL (s : State) : Out := rotateLoc .sra .mHL s

/-- SRA A, opcode 0xCB 0x2F (R335). -/
def exec_sra_A (s : State) : Out := rotateLoc .sra (.reg .a) s

/-- SWAP B, opcode 0xCB 0x30 (R337). -/
def exec_swap_B (s : State) : Out := rotateLoc .swap (.reg .b) s

/-- SWAP C, opcode 0xCB 0x31 (R337). -/
def exec_swap_C (s : State) : Out := rotateLoc .swap (.reg .c) s

/-- SWAP D, opcode 0xCB 0x32 (R337). -/
def exec_swap_D (s : State) : Out := rotateLoc .swap (.reg .d) s

/-- SWAP E, opcode 0xCB 0x33 (R337). -/
def exec_swap_E (s : State) : Out := rotateLoc .swap (.reg .e) s

/-- SWAP H, opcode 0xCB 0x34 (R337). -/
def exec_swap_H (s : State) : Out := rotateLoc .swap (.reg .h) s

/-- SWAP L, opcode 0xCB 0x35 (R337). -/
def exec_swap_L (s : State) : Out := rotateLoc .swap (.reg .l) s

/-- SWAP (HL), opcode 0xCB 0x36 (R338). -/
def exec_swap_mHL (s : State) : Out := rotateLoc .swap .mHL s

/-- SWAP A, opcode 0xCB 0x37 (R337). -/
def exec_swap_A (s : State) : Out := rotateLoc .swap (.reg .a) s

/-- SRL B, opcode 0xCB 0x38 (R339). -/
def exec_srl_B (s : State) : Out := rotateLoc .srl (.reg .b) s

/-- SRL C, opcode 0xCB 0x39 (R339). -/
def exec_srl_C (s : State) : Out := rotateLoc .srl (.reg .c) s

/-- SRL D, opcode 0xCB 0x3A (R339). -/
def exec_srl_D (s : State) : Out := rotateLoc .srl (.reg .d) s

/-- SRL E, opcode 0xCB 0x3B (R339). -/
def exec_srl_E (s : State) : Out := rotateLoc .srl (.reg .e) s

/-- SRL H, opcode 0xCB 0x3C (R339). -/
def exec_srl_H (s : State) : Out := rotateLoc .srl (.reg .h) s

/-- SRL L, opcode 0xCB 0x3D (R339). -/
def exec_srl_L (s : State) : Out := rotateLoc .srl (.reg .l) s

/-- SRL (HL), opcode 0xCB 0x3E (R340). -/
def exec_srl_mHL (s : State) : Out := rotateLoc .srl .mHL s

/-- SRL A, opcode 0xCB 0x3F (R339). -/
def exec_srl_A (s : State) : Out := rotateLoc .srl (.reg .a) s

end Sys2Proof.Machine
end

