-- ==== Sys2Proof/WellFormed.lean ====
section
/-! DEFINITION. Which terms of `Instr` are instructions of the opcode table (R110, R111). -/

namespace Sys2Proof

/-- The 11 invalid unprefixed opcodes, INVALID11 (R111). -/
def invalid11 : List Byte :=
  [0xD3, 0xDB, 0xDD, 0xE3, 0xE4, 0xEB, 0xEC, 0xED, 0xF4, 0xFC, 0xFD]

/-- An instruction term is well formed when its operands are legal. Register, condition and bit selectors are closed
enumerations (R47) and immediates take every value, so the only check is that `invalid op` names one of the 11 invalid
opcodes (R111). -/
def Instr.wellFormed : Instr → Bool
  | .invalid op => invalid11.contains op
  | .nop => true
  | .ld_BC_d16 _ => true
  | .ld_mBC_A => true
  | .inc_BC => true
  | .inc_B => true
  | .dec_B => true
  | .ld_B_d8 _ => true
  | .rlca => true
  | .ld_ma16_SP _ => true
  | .add_HL_BC => true
  | .ld_A_mBC => true
  | .dec_BC => true
  | .inc_C => true
  | .dec_C => true
  | .ld_C_d8 _ => true
  | .rrca => true
  | .stop _ => true
  | .ld_DE_d16 _ => true
  | .ld_mDE_A => true
  | .inc_DE => true
  | .inc_D => true
  | .dec_D => true
  | .ld_D_d8 _ => true
  | .rla => true
  | .jr_e8 _ => true
  | .add_HL_DE => true
  | .ld_A_mDE => true
  | .dec_DE => true
  | .inc_E => true
  | .dec_E => true
  | .ld_E_d8 _ => true
  | .rra => true
  | .jr_NZ_e8 _ => true
  | .ld_HL_d16 _ => true
  | .ld_mHLinc_A => true
  | .inc_HL => true
  | .inc_H => true
  | .dec_H => true
  | .ld_H_d8 _ => true
  | .daa => true
  | .jr_Z_e8 _ => true
  | .add_HL_HL => true
  | .ld_A_mHLinc => true
  | .dec_HL => true
  | .inc_L => true
  | .dec_L => true
  | .ld_L_d8 _ => true
  | .cpl => true
  | .jr_NC_e8 _ => true
  | .ld_SP_d16 _ => true
  | .ld_mHLdec_A => true
  | .inc_SP => true
  | .inc_mHL => true
  | .dec_mHL => true
  | .ld_mHL_d8 _ => true
  | .scf => true
  | .jr_C_e8 _ => true
  | .add_HL_SP => true
  | .ld_A_mHLdec => true
  | .dec_SP => true
  | .inc_A => true
  | .dec_A => true
  | .ld_A_d8 _ => true
  | .ccf => true
  | .ld_B_B => true
  | .ld_B_C => true
  | .ld_B_D => true
  | .ld_B_E => true
  | .ld_B_H => true
  | .ld_B_L => true
  | .ld_B_mHL => true
  | .ld_B_A => true
  | .ld_C_B => true
  | .ld_C_C => true
  | .ld_C_D => true
  | .ld_C_E => true
  | .ld_C_H => true
  | .ld_C_L => true
  | .ld_C_mHL => true
  | .ld_C_A => true
  | .ld_D_B => true
  | .ld_D_C => true
  | .ld_D_D => true
  | .ld_D_E => true
  | .ld_D_H => true
  | .ld_D_L => true
  | .ld_D_mHL => true
  | .ld_D_A => true
  | .ld_E_B => true
  | .ld_E_C => true
  | .ld_E_D => true
  | .ld_E_E => true
  | .ld_E_H => true
  | .ld_E_L => true
  | .ld_E_mHL => true
  | .ld_E_A => true
  | .ld_H_B => true
  | .ld_H_C => true
  | .ld_H_D => true
  | .ld_H_E => true
  | .ld_H_H => true
  | .ld_H_L => true
  | .ld_H_mHL => true
  | .ld_H_A => true
  | .ld_L_B => true
  | .ld_L_C => true
  | .ld_L_D => true
  | .ld_L_E => true
  | .ld_L_H => true
  | .ld_L_L => true
  | .ld_L_mHL => true
  | .ld_L_A => true
  | .ld_mHL_B => true
  | .ld_mHL_C => true
  | .ld_mHL_D => true
  | .ld_mHL_E => true
  | .ld_mHL_H => true
  | .ld_mHL_L => true
  | .halt => true
  | .ld_mHL_A => true
  | .ld_A_B => true
  | .ld_A_C => true
  | .ld_A_D => true
  | .ld_A_E => true
  | .ld_A_H => true
  | .ld_A_L => true
  | .ld_A_mHL => true
  | .ld_A_A => true
  | .add_A_B => true
  | .add_A_C => true
  | .add_A_D => true
  | .add_A_E => true
  | .add_A_H => true
  | .add_A_L => true
  | .add_A_mHL => true
  | .add_A_A => true
  | .adc_A_B => true
  | .adc_A_C => true
  | .adc_A_D => true
  | .adc_A_E => true
  | .adc_A_H => true
  | .adc_A_L => true
  | .adc_A_mHL => true
  | .adc_A_A => true
  | .sub_B => true
  | .sub_C => true
  | .sub_D => true
  | .sub_E => true
  | .sub_H => true
  | .sub_L => true
  | .sub_mHL => true
  | .sub_A => true
  | .sbc_A_B => true
  | .sbc_A_C => true
  | .sbc_A_D => true
  | .sbc_A_E => true
  | .sbc_A_H => true
  | .sbc_A_L => true
  | .sbc_A_mHL => true
  | .sbc_A_A => true
  | .and_B => true
  | .and_C => true
  | .and_D => true
  | .and_E => true
  | .and_H => true
  | .and_L => true
  | .and_mHL => true
  | .and_A => true
  | .xor_B => true
  | .xor_C => true
  | .xor_D => true
  | .xor_E => true
  | .xor_H => true
  | .xor_L => true
  | .xor_mHL => true
  | .xor_A => true
  | .or_B => true
  | .or_C => true
  | .or_D => true
  | .or_E => true
  | .or_H => true
  | .or_L => true
  | .or_mHL => true
  | .or_A => true
  | .cp_B => true
  | .cp_C => true
  | .cp_D => true
  | .cp_E => true
  | .cp_H => true
  | .cp_L => true
  | .cp_mHL => true
  | .cp_A => true
  | .ret_NZ => true
  | .pop_BC => true
  | .jp_NZ_a16 _ => true
  | .jp_a16 _ => true
  | .call_NZ_a16 _ => true
  | .push_BC => true
  | .add_A_d8 _ => true
  | .rst_00 => true
  | .ret_Z => true
  | .ret => true
  | .jp_Z_a16 _ => true
  | .call_Z_a16 _ => true
  | .call_a16 _ => true
  | .adc_A_d8 _ => true
  | .rst_08 => true
  | .ret_NC => true
  | .pop_DE => true
  | .jp_NC_a16 _ => true
  | .call_NC_a16 _ => true
  | .push_DE => true
  | .sub_d8 _ => true
  | .rst_10 => true
  | .ret_C => true
  | .reti => true
  | .jp_C_a16 _ => true
  | .call_C_a16 _ => true
  | .sbc_A_d8 _ => true
  | .rst_18 => true
  | .ldh_ma8_A _ => true
  | .pop_HL => true
  | .ld_mC_A => true
  | .push_HL => true
  | .and_d8 _ => true
  | .rst_20 => true
  | .add_SP_e8 _ => true
  | .jp_HL => true
  | .ld_ma16_A _ => true
  | .xor_d8 _ => true
  | .rst_28 => true
  | .ldh_A_ma8 _ => true
  | .pop_AF => true
  | .ld_A_mC => true
  | .di => true
  | .push_AF => true
  | .or_d8 _ => true
  | .rst_30 => true
  | .ld_HL_SPe8 _ => true
  | .ld_SP_HL => true
  | .ld_A_ma16 _ => true
  | .ei => true
  | .cp_d8 _ => true
  | .rst_38 => true
  | .rlc_B => true
  | .rlc_C => true
  | .rlc_D => true
  | .rlc_E => true
  | .rlc_H => true
  | .rlc_L => true
  | .rlc_mHL => true
  | .rlc_A => true
  | .rrc_B => true
  | .rrc_C => true
  | .rrc_D => true
  | .rrc_E => true
  | .rrc_H => true
  | .rrc_L => true
  | .rrc_mHL => true
  | .rrc_A => true
  | .rl_B => true
  | .rl_C => true
  | .rl_D => true
  | .rl_E => true
  | .rl_H => true
  | .rl_L => true
  | .rl_mHL => true
  | .rl_A => true
  | .rr_B => true
  | .rr_C => true
  | .rr_D => true
  | .rr_E => true
  | .rr_H => true
  | .rr_L => true
  | .rr_mHL => true
  | .rr_A => true
  | .sla_B => true
  | .sla_C => true
  | .sla_D => true
  | .sla_E => true
  | .sla_H => true
  | .sla_L => true
  | .sla_mHL => true
  | .sla_A => true
  | .sra_B => true
  | .sra_C => true
  | .sra_D => true
  | .sra_E => true
  | .sra_H => true
  | .sra_L => true
  | .sra_mHL => true
  | .sra_A => true
  | .swap_B => true
  | .swap_C => true
  | .swap_D => true
  | .swap_E => true
  | .swap_H => true
  | .swap_L => true
  | .swap_mHL => true
  | .swap_A => true
  | .srl_B => true
  | .srl_C => true
  | .srl_D => true
  | .srl_E => true
  | .srl_H => true
  | .srl_L => true
  | .srl_mHL => true
  | .srl_A => true
  | .bit_0_B => true
  | .bit_0_C => true
  | .bit_0_D => true
  | .bit_0_E => true
  | .bit_0_H => true
  | .bit_0_L => true
  | .bit_0_mHL => true
  | .bit_0_A => true
  | .bit_1_B => true
  | .bit_1_C => true
  | .bit_1_D => true
  | .bit_1_E => true
  | .bit_1_H => true
  | .bit_1_L => true
  | .bit_1_mHL => true
  | .bit_1_A => true
  | .bit_2_B => true
  | .bit_2_C => true
  | .bit_2_D => true
  | .bit_2_E => true
  | .bit_2_H => true
  | .bit_2_L => true
  | .bit_2_mHL => true
  | .bit_2_A => true
  | .bit_3_B => true
  | .bit_3_C => true
  | .bit_3_D => true
  | .bit_3_E => true
  | .bit_3_H => true
  | .bit_3_L => true
  | .bit_3_mHL => true
  | .bit_3_A => true
  | .bit_4_B => true
  | .bit_4_C => true
  | .bit_4_D => true
  | .bit_4_E => true
  | .bit_4_H => true
  | .bit_4_L => true
  | .bit_4_mHL => true
  | .bit_4_A => true
  | .bit_5_B => true
  | .bit_5_C => true
  | .bit_5_D => true
  | .bit_5_E => true
  | .bit_5_H => true
  | .bit_5_L => true
  | .bit_5_mHL => true
  | .bit_5_A => true
  | .bit_6_B => true
  | .bit_6_C => true
  | .bit_6_D => true
  | .bit_6_E => true
  | .bit_6_H => true
  | .bit_6_L => true
  | .bit_6_mHL => true
  | .bit_6_A => true
  | .bit_7_B => true
  | .bit_7_C => true
  | .bit_7_D => true
  | .bit_7_E => true
  | .bit_7_H => true
  | .bit_7_L => true
  | .bit_7_mHL => true
  | .bit_7_A => true
  | .res_0_B => true
  | .res_0_C => true
  | .res_0_D => true
  | .res_0_E => true
  | .res_0_H => true
  | .res_0_L => true
  | .res_0_mHL => true
  | .res_0_A => true
  | .res_1_B => true
  | .res_1_C => true
  | .res_1_D => true
  | .res_1_E => true
  | .res_1_H => true
  | .res_1_L => true
  | .res_1_mHL => true
  | .res_1_A => true
  | .res_2_B => true
  | .res_2_C => true
  | .res_2_D => true
  | .res_2_E => true
  | .res_2_H => true
  | .res_2_L => true
  | .res_2_mHL => true
  | .res_2_A => true
  | .res_3_B => true
  | .res_3_C => true
  | .res_3_D => true
  | .res_3_E => true
  | .res_3_H => true
  | .res_3_L => true
  | .res_3_mHL => true
  | .res_3_A => true
  | .res_4_B => true
  | .res_4_C => true
  | .res_4_D => true
  | .res_4_E => true
  | .res_4_H => true
  | .res_4_L => true
  | .res_4_mHL => true
  | .res_4_A => true
  | .res_5_B => true
  | .res_5_C => true
  | .res_5_D => true
  | .res_5_E => true
  | .res_5_H => true
  | .res_5_L => true
  | .res_5_mHL => true
  | .res_5_A => true
  | .res_6_B => true
  | .res_6_C => true
  | .res_6_D => true
  | .res_6_E => true
  | .res_6_H => true
  | .res_6_L => true
  | .res_6_mHL => true
  | .res_6_A => true
  | .res_7_B => true
  | .res_7_C => true
  | .res_7_D => true
  | .res_7_E => true
  | .res_7_H => true
  | .res_7_L => true
  | .res_7_mHL => true
  | .res_7_A => true
  | .set_0_B => true
  | .set_0_C => true
  | .set_0_D => true
  | .set_0_E => true
  | .set_0_H => true
  | .set_0_L => true
  | .set_0_mHL => true
  | .set_0_A => true
  | .set_1_B => true
  | .set_1_C => true
  | .set_1_D => true
  | .set_1_E => true
  | .set_1_H => true
  | .set_1_L => true
  | .set_1_mHL => true
  | .set_1_A => true
  | .set_2_B => true
  | .set_2_C => true
  | .set_2_D => true
  | .set_2_E => true
  | .set_2_H => true
  | .set_2_L => true
  | .set_2_mHL => true
  | .set_2_A => true
  | .set_3_B => true
  | .set_3_C => true
  | .set_3_D => true
  | .set_3_E => true
  | .set_3_H => true
  | .set_3_L => true
  | .set_3_mHL => true
  | .set_3_A => true
  | .set_4_B => true
  | .set_4_C => true
  | .set_4_D => true
  | .set_4_E => true
  | .set_4_H => true
  | .set_4_L => true
  | .set_4_mHL => true
  | .set_4_A => true
  | .set_5_B => true
  | .set_5_C => true
  | .set_5_D => true
  | .set_5_E => true
  | .set_5_H => true
  | .set_5_L => true
  | .set_5_mHL => true
  | .set_5_A => true
  | .set_6_B => true
  | .set_6_C => true
  | .set_6_D => true
  | .set_6_E => true
  | .set_6_H => true
  | .set_6_L => true
  | .set_6_mHL => true
  | .set_6_A => true
  | .set_7_B => true
  | .set_7_C => true
  | .set_7_D => true
  | .set_7_E => true
  | .set_7_H => true
  | .set_7_L => true
  | .set_7_mHL => true
  | .set_7_A => true

end Sys2Proof
end

