-- ==== Sys2Proof/Decode.lean ====
section
/-! DEFINITION. The decoder: the two 16 by 16 opcode maps of R117, operand assembly (R100, R108), and the encoder. -/

namespace Sys2Proof

open Sys2Proof.Machine (cat hi lo)

/-- An entry of the unprefixed opcode map (R110): an instruction of format U1, U2 or U3 (R100), the prefix 0xCB, or an
invalid opcode. -/
inductive Entry where
  | u1 (i : Instr)
  | u2 (f : Byte → Instr)
  | u3 (f : Word → Instr)
  | cb
  | bad

/-- The element of a row or a grid at position `n`. -/
def pick {α : Type} (dflt : α) : List α → Nat → α
  | [], _ => dflt
  | x :: _, 0 => x
  | _ :: xs, n + 1 => pick dflt xs n

/-- Row 0x of the unprefixed map (R117). -/
def opRow0 : List Entry :=
  [.u1 .nop, .u3 .ld_BC_d16, .u1 .ld_mBC_A, .u1 .inc_BC, .u1 .inc_B, .u1 .dec_B, .u2 .ld_B_d8, .u1 .rlca,
   .u3 .ld_ma16_SP, .u1 .add_HL_BC, .u1 .ld_A_mBC, .u1 .dec_BC, .u1 .inc_C, .u1 .dec_C, .u2 .ld_C_d8, .u1 .rrca]

/-- Row 1x of the unprefixed map (R117). -/
def opRow1 : List Entry :=
  [.u2 .stop, .u3 .ld_DE_d16, .u1 .ld_mDE_A, .u1 .inc_DE, .u1 .inc_D, .u1 .dec_D, .u2 .ld_D_d8, .u1 .rla,
   .u2 .jr_e8, .u1 .add_HL_DE, .u1 .ld_A_mDE, .u1 .dec_DE, .u1 .inc_E, .u1 .dec_E, .u2 .ld_E_d8, .u1 .rra]

/-- Row 2x of the unprefixed map (R117). -/
def opRow2 : List Entry :=
  [.u2 .jr_NZ_e8, .u3 .ld_HL_d16, .u1 .ld_mHLinc_A, .u1 .inc_HL, .u1 .inc_H, .u1 .dec_H, .u2 .ld_H_d8, .u1 .daa,
   .u2 .jr_Z_e8, .u1 .add_HL_HL, .u1 .ld_A_mHLinc, .u1 .dec_HL, .u1 .inc_L, .u1 .dec_L, .u2 .ld_L_d8, .u1 .cpl]

/-- Row 3x of the unprefixed map (R117). -/
def opRow3 : List Entry :=
  [.u2 .jr_NC_e8, .u3 .ld_SP_d16, .u1 .ld_mHLdec_A, .u1 .inc_SP, .u1 .inc_mHL, .u1 .dec_mHL, .u2 .ld_mHL_d8, .u1 .scf,
   .u2 .jr_C_e8, .u1 .add_HL_SP, .u1 .ld_A_mHLdec, .u1 .dec_SP, .u1 .inc_A, .u1 .dec_A, .u2 .ld_A_d8, .u1 .ccf]

/-- Row 4x of the unprefixed map (R117). -/
def opRow4 : List Entry :=
  [.u1 .ld_B_B, .u1 .ld_B_C, .u1 .ld_B_D, .u1 .ld_B_E, .u1 .ld_B_H, .u1 .ld_B_L, .u1 .ld_B_mHL, .u1 .ld_B_A,
   .u1 .ld_C_B, .u1 .ld_C_C, .u1 .ld_C_D, .u1 .ld_C_E, .u1 .ld_C_H, .u1 .ld_C_L, .u1 .ld_C_mHL, .u1 .ld_C_A]

/-- Row 5x of the unprefixed map (R117). -/
def opRow5 : List Entry :=
  [.u1 .ld_D_B, .u1 .ld_D_C, .u1 .ld_D_D, .u1 .ld_D_E, .u1 .ld_D_H, .u1 .ld_D_L, .u1 .ld_D_mHL, .u1 .ld_D_A,
   .u1 .ld_E_B, .u1 .ld_E_C, .u1 .ld_E_D, .u1 .ld_E_E, .u1 .ld_E_H, .u1 .ld_E_L, .u1 .ld_E_mHL, .u1 .ld_E_A]

/-- Row 6x of the unprefixed map (R117). -/
def opRow6 : List Entry :=
  [.u1 .ld_H_B, .u1 .ld_H_C, .u1 .ld_H_D, .u1 .ld_H_E, .u1 .ld_H_H, .u1 .ld_H_L, .u1 .ld_H_mHL, .u1 .ld_H_A,
   .u1 .ld_L_B, .u1 .ld_L_C, .u1 .ld_L_D, .u1 .ld_L_E, .u1 .ld_L_H, .u1 .ld_L_L, .u1 .ld_L_mHL, .u1 .ld_L_A]

/-- Row 7x of the unprefixed map (R117). -/
def opRow7 : List Entry :=
  [.u1 .ld_mHL_B, .u1 .ld_mHL_C, .u1 .ld_mHL_D, .u1 .ld_mHL_E, .u1 .ld_mHL_H, .u1 .ld_mHL_L, .u1 .halt, .u1 .ld_mHL_A,
   .u1 .ld_A_B, .u1 .ld_A_C, .u1 .ld_A_D, .u1 .ld_A_E, .u1 .ld_A_H, .u1 .ld_A_L, .u1 .ld_A_mHL, .u1 .ld_A_A]

/-- Row 8x of the unprefixed map (R117). -/
def opRow8 : List Entry :=
  [.u1 .add_A_B, .u1 .add_A_C, .u1 .add_A_D, .u1 .add_A_E, .u1 .add_A_H, .u1 .add_A_L, .u1 .add_A_mHL, .u1 .add_A_A,
   .u1 .adc_A_B, .u1 .adc_A_C, .u1 .adc_A_D, .u1 .adc_A_E, .u1 .adc_A_H, .u1 .adc_A_L, .u1 .adc_A_mHL, .u1 .adc_A_A]

/-- Row 9x of the unprefixed map (R117). -/
def opRow9 : List Entry :=
  [.u1 .sub_B, .u1 .sub_C, .u1 .sub_D, .u1 .sub_E, .u1 .sub_H, .u1 .sub_L, .u1 .sub_mHL, .u1 .sub_A,
   .u1 .sbc_A_B, .u1 .sbc_A_C, .u1 .sbc_A_D, .u1 .sbc_A_E, .u1 .sbc_A_H, .u1 .sbc_A_L, .u1 .sbc_A_mHL, .u1 .sbc_A_A]

/-- Row Ax of the unprefixed map (R117). -/
def opRowA : List Entry :=
  [.u1 .and_B, .u1 .and_C, .u1 .and_D, .u1 .and_E, .u1 .and_H, .u1 .and_L, .u1 .and_mHL, .u1 .and_A,
   .u1 .xor_B, .u1 .xor_C, .u1 .xor_D, .u1 .xor_E, .u1 .xor_H, .u1 .xor_L, .u1 .xor_mHL, .u1 .xor_A]

/-- Row Bx of the unprefixed map (R117). -/
def opRowB : List Entry :=
  [.u1 .or_B, .u1 .or_C, .u1 .or_D, .u1 .or_E, .u1 .or_H, .u1 .or_L, .u1 .or_mHL, .u1 .or_A,
   .u1 .cp_B, .u1 .cp_C, .u1 .cp_D, .u1 .cp_E, .u1 .cp_H, .u1 .cp_L, .u1 .cp_mHL, .u1 .cp_A]

/-- Row Cx of the unprefixed map (R117). -/
def opRowC : List Entry :=
  [.u1 .ret_NZ, .u1 .pop_BC, .u3 .jp_NZ_a16, .u3 .jp_a16, .u3 .call_NZ_a16, .u1 .push_BC, .u2 .add_A_d8, .u1 .rst_00,
   .u1 .ret_Z, .u1 .ret, .u3 .jp_Z_a16, .cb, .u3 .call_Z_a16, .u3 .call_a16, .u2 .adc_A_d8, .u1 .rst_08]

/-- Row Dx of the unprefixed map (R117). -/
def opRowD : List Entry :=
  [.u1 .ret_NC, .u1 .pop_DE, .u3 .jp_NC_a16, .bad, .u3 .call_NC_a16, .u1 .push_DE, .u2 .sub_d8, .u1 .rst_10,
   .u1 .ret_C, .u1 .reti, .u3 .jp_C_a16, .bad, .u3 .call_C_a16, .bad, .u2 .sbc_A_d8, .u1 .rst_18]

/-- Row Ex of the unprefixed map (R117). -/
def opRowE : List Entry :=
  [.u2 .ldh_ma8_A, .u1 .pop_HL, .u1 .ld_mC_A, .bad, .bad, .u1 .push_HL, .u2 .and_d8, .u1 .rst_20,
   .u2 .add_SP_e8, .u1 .jp_HL, .u3 .ld_ma16_A, .bad, .bad, .bad, .u2 .xor_d8, .u1 .rst_28]

/-- Row Fx of the unprefixed map (R117). -/
def opRowF : List Entry :=
  [.u2 .ldh_A_ma8, .u1 .pop_AF, .u1 .ld_A_mC, .u1 .di, .bad, .u1 .push_AF, .u2 .or_d8, .u1 .rst_30,
   .u2 .ld_HL_SPe8, .u1 .ld_SP_HL, .u3 .ld_A_ma16, .u1 .ei, .bad, .bad, .u2 .cp_d8, .u1 .rst_38]

/-- The unprefixed map (R117): row = high nibble, column = low nibble. -/
def opGrid : List (List Entry) :=
  [opRow0, opRow1, opRow2, opRow3, opRow4, opRow5, opRow6, opRow7] ++
  [opRow8, opRow9, opRowA, opRowB, opRowC, opRowD, opRowE, opRowF]

/-- Row 0x of the prefixed map (R117). -/
def cbRow0 : List Instr :=
  [.rlc_B, .rlc_C, .rlc_D, .rlc_E, .rlc_H, .rlc_L, .rlc_mHL, .rlc_A,
   .rrc_B, .rrc_C, .rrc_D, .rrc_E, .rrc_H, .rrc_L, .rrc_mHL, .rrc_A]

/-- Row 1x of the prefixed map (R117). -/
def cbRow1 : List Instr :=
  [.rl_B, .rl_C, .rl_D, .rl_E, .rl_H, .rl_L, .rl_mHL, .rl_A,
   .rr_B, .rr_C, .rr_D, .rr_E, .rr_H, .rr_L, .rr_mHL, .rr_A]

/-- Row 2x of the prefixed map (R117). -/
def cbRow2 : List Instr :=
  [.sla_B, .sla_C, .sla_D, .sla_E, .sla_H, .sla_L, .sla_mHL, .sla_A,
   .sra_B, .sra_C, .sra_D, .sra_E, .sra_H, .sra_L, .sra_mHL, .sra_A]

/-- Row 3x of the prefixed map (R117). -/
def cbRow3 : List Instr :=
  [.swap_B, .swap_C, .swap_D, .swap_E, .swap_H, .swap_L, .swap_mHL, .swap_A,
   .srl_B, .srl_C, .srl_D, .srl_E, .srl_H, .srl_L, .srl_mHL, .srl_A]

/-- Row 4x of the prefixed map (R117). -/
def cbRow4 : List Instr :=
  [.bit_0_B, .bit_0_C, .bit_0_D, .bit_0_E, .bit_0_H, .bit_0_L, .bit_0_mHL, .bit_0_A,
   .bit_1_B, .bit_1_C, .bit_1_D, .bit_1_E, .bit_1_H, .bit_1_L, .bit_1_mHL, .bit_1_A]

/-- Row 5x of the prefixed map (R117). -/
def cbRow5 : List Instr :=
  [.bit_2_B, .bit_2_C, .bit_2_D, .bit_2_E, .bit_2_H, .bit_2_L, .bit_2_mHL, .bit_2_A,
   .bit_3_B, .bit_3_C, .bit_3_D, .bit_3_E, .bit_3_H, .bit_3_L, .bit_3_mHL, .bit_3_A]

/-- Row 6x of the prefixed map (R117). -/
def cbRow6 : List Instr :=
  [.bit_4_B, .bit_4_C, .bit_4_D, .bit_4_E, .bit_4_H, .bit_4_L, .bit_4_mHL, .bit_4_A,
   .bit_5_B, .bit_5_C, .bit_5_D, .bit_5_E, .bit_5_H, .bit_5_L, .bit_5_mHL, .bit_5_A]

/-- Row 7x of the prefixed map (R117). -/
def cbRow7 : List Instr :=
  [.bit_6_B, .bit_6_C, .bit_6_D, .bit_6_E, .bit_6_H, .bit_6_L, .bit_6_mHL, .bit_6_A,
   .bit_7_B, .bit_7_C, .bit_7_D, .bit_7_E, .bit_7_H, .bit_7_L, .bit_7_mHL, .bit_7_A]

/-- Row 8x of the prefixed map (R117). -/
def cbRow8 : List Instr :=
  [.res_0_B, .res_0_C, .res_0_D, .res_0_E, .res_0_H, .res_0_L, .res_0_mHL, .res_0_A,
   .res_1_B, .res_1_C, .res_1_D, .res_1_E, .res_1_H, .res_1_L, .res_1_mHL, .res_1_A]

/-- Row 9x of the prefixed map (R117). -/
def cbRow9 : List Instr :=
  [.res_2_B, .res_2_C, .res_2_D, .res_2_E, .res_2_H, .res_2_L, .res_2_mHL, .res_2_A,
   .res_3_B, .res_3_C, .res_3_D, .res_3_E, .res_3_H, .res_3_L, .res_3_mHL, .res_3_A]

/-- Row Ax of the prefixed map (R117). -/
def cbRowA : List Instr :=
  [.res_4_B, .res_4_C, .res_4_D, .res_4_E, .res_4_H, .res_4_L, .res_4_mHL, .res_4_A,
   .res_5_B, .res_5_C, .res_5_D, .res_5_E, .res_5_H, .res_5_L, .res_5_mHL, .res_5_A]

/-- Row Bx of the prefixed map (R117). -/
def cbRowB : List Instr :=
  [.res_6_B, .res_6_C, .res_6_D, .res_6_E, .res_6_H, .res_6_L, .res_6_mHL, .res_6_A,
   .res_7_B, .res_7_C, .res_7_D, .res_7_E, .res_7_H, .res_7_L, .res_7_mHL, .res_7_A]

/-- Row Cx of the prefixed map (R117). -/
def cbRowC : List Instr :=
  [.set_0_B, .set_0_C, .set_0_D, .set_0_E, .set_0_H, .set_0_L, .set_0_mHL, .set_0_A,
   .set_1_B, .set_1_C, .set_1_D, .set_1_E, .set_1_H, .set_1_L, .set_1_mHL, .set_1_A]

/-- Row Dx of the prefixed map (R117). -/
def cbRowD : List Instr :=
  [.set_2_B, .set_2_C, .set_2_D, .set_2_E, .set_2_H, .set_2_L, .set_2_mHL, .set_2_A,
   .set_3_B, .set_3_C, .set_3_D, .set_3_E, .set_3_H, .set_3_L, .set_3_mHL, .set_3_A]

/-- Row Ex of the prefixed map (R117). -/
def cbRowE : List Instr :=
  [.set_4_B, .set_4_C, .set_4_D, .set_4_E, .set_4_H, .set_4_L, .set_4_mHL, .set_4_A,
   .set_5_B, .set_5_C, .set_5_D, .set_5_E, .set_5_H, .set_5_L, .set_5_mHL, .set_5_A]

/-- Row Fx of the prefixed map (R117). -/
def cbRowF : List Instr :=
  [.set_6_B, .set_6_C, .set_6_D, .set_6_E, .set_6_H, .set_6_L, .set_6_mHL, .set_6_A,
   .set_7_B, .set_7_C, .set_7_D, .set_7_E, .set_7_H, .set_7_L, .set_7_mHL, .set_7_A]

/-- The prefixed map (R117): the byte after 0xCB selects the instruction. -/
def cbGrid : List (List Instr) :=
  [cbRow0, cbRow1, cbRow2, cbRow3, cbRow4, cbRow5, cbRow6, cbRow7] ++
  [cbRow8, cbRow9, cbRowA, cbRowB, cbRowC, cbRowD, cbRowE, cbRowF]

/-- The unprefixed entry of a first byte (R109, R110). -/
def unprefixed (b0 : Byte) : Entry :=
  pick .bad (pick [] opGrid (b0.toNat / 16)) (b0.toNat % 16)

/-- The prefixed instruction of the byte after 0xCB; every one of the 256 is valid (R110, R115). -/
def prefixedAt (b1 : Byte) : Instr :=
  pick .nop (pick [] cbGrid (b1.toNat / 16)) (b1.toNat % 16)

/-- How many bytes follow the first one (R100, R101); of an invalid opcode only the first byte is read (R401). -/
def Entry.operandBytes : Entry → Nat
  | .u1 _ => 0
  | .u2 _ => 1
  | .u3 _ => 2
  | .cb => 1
  | .bad => 0

/-- The instruction of an entry, its first byte and the operand bytes in order (R100, R108): a 16-bit immediate has its
low byte first. -/
def Entry.instr (e : Entry) (b0 b1 b2 : Byte) : Instr :=
  match e with
  | .u1 i => i
  | .u2 f => f b1
  | .u3 f => f (cat b2 b1)
  | .cb => prefixedAt b1
  | .bad => .invalid b0

/-- Why a byte string is not decoded: it is empty, or it ends before the instruction that `b0` begins does. -/
inductive DecodeError where
  | empty
  | truncated (b0 : Byte)
  deriving DecidableEq, Repr

/-- Split off the first `n` bytes, `none` where there are fewer. -/
def splitBytes : Nat → List Byte → Option (List Byte × List Byte)
  | 0, bs => some ([], bs)
  | _ + 1, [] => none
  | n + 1, b :: bs => (splitBytes n bs).map fun p => (b :: p.1, p.2)

/-- The instruction that the bytes begin with, and the bytes after it (R100, R109). Total: every byte string is decoded or
refused by name. The 11 invalid opcodes decode to `invalid` (R111). -/
def decode : List Byte → Except DecodeError (Instr × List Byte)
  | [] => .error .empty
  | b0 :: bs =>
    match splitBytes (unprefixed b0).operandBytes bs with
    | none => .error (.truncated b0)
    | some (ops, rest) => .ok ((unprefixed b0).instr b0 (pick 0 ops 0) (pick 0 ops 1), rest)

/-- The bytes of an instruction, first byte first: the opcode map read the other way, 16-bit immediates low byte first
(R100, R108, R117). -/
def encode : Instr → List Byte
  | .nop => [0x00]
  | .ld_BC_d16 nn => [0x01, lo nn, hi nn]
  | .ld_mBC_A => [0x02]
  | .inc_BC => [0x03]
  | .inc_B => [0x04]
  | .dec_B => [0x05]
  | .ld_B_d8 n => [0x06, n]
  | .rlca => [0x07]
  | .ld_ma16_SP nn => [0x08, lo nn, hi nn]
  | .add_HL_BC => [0x09]
  | .ld_A_mBC => [0x0A]
  | .dec_BC => [0x0B]
  | .inc_C => [0x0C]
  | .dec_C => [0x0D]
  | .ld_C_d8 n => [0x0E, n]
  | .rrca => [0x0F]
  | .stop n => [0x10, n]
  | .ld_DE_d16 nn => [0x11, lo nn, hi nn]
  | .ld_mDE_A => [0x12]
  | .inc_DE => [0x13]
  | .inc_D => [0x14]
  | .dec_D => [0x15]
  | .ld_D_d8 n => [0x16, n]
  | .rla => [0x17]
  | .jr_e8 e => [0x18, e]
  | .add_HL_DE => [0x19]
  | .ld_A_mDE => [0x1A]
  | .dec_DE => [0x1B]
  | .inc_E => [0x1C]
  | .dec_E => [0x1D]
  | .ld_E_d8 n => [0x1E, n]
  | .rra => [0x1F]
  | .jr_NZ_e8 e => [0x20, e]
  | .ld_HL_d16 nn => [0x21, lo nn, hi nn]
  | .ld_mHLinc_A => [0x22]
  | .inc_HL => [0x23]
  | .inc_H => [0x24]
  | .dec_H => [0x25]
  | .ld_H_d8 n => [0x26, n]
  | .daa => [0x27]
  | .jr_Z_e8 e => [0x28, e]
  | .add_HL_HL => [0x29]
  | .ld_A_mHLinc => [0x2A]
  | .dec_HL => [0x2B]
  | .inc_L => [0x2C]
  | .dec_L => [0x2D]
  | .ld_L_d8 n => [0x2E, n]
  | .cpl => [0x2F]
  | .jr_NC_e8 e => [0x30, e]
  | .ld_SP_d16 nn => [0x31, lo nn, hi nn]
  | .ld_mHLdec_A => [0x32]
  | .inc_SP => [0x33]
  | .inc_mHL => [0x34]
  | .dec_mHL => [0x35]
  | .ld_mHL_d8 n => [0x36, n]
  | .scf => [0x37]
  | .jr_C_e8 e => [0x38, e]
  | .add_HL_SP => [0x39]
  | .ld_A_mHLdec => [0x3A]
  | .dec_SP => [0x3B]
  | .inc_A => [0x3C]
  | .dec_A => [0x3D]
  | .ld_A_d8 n => [0x3E, n]
  | .ccf => [0x3F]
  | .ld_B_B => [0x40]
  | .ld_B_C => [0x41]
  | .ld_B_D => [0x42]
  | .ld_B_E => [0x43]
  | .ld_B_H => [0x44]
  | .ld_B_L => [0x45]
  | .ld_B_mHL => [0x46]
  | .ld_B_A => [0x47]
  | .ld_C_B => [0x48]
  | .ld_C_C => [0x49]
  | .ld_C_D => [0x4A]
  | .ld_C_E => [0x4B]
  | .ld_C_H => [0x4C]
  | .ld_C_L => [0x4D]
  | .ld_C_mHL => [0x4E]
  | .ld_C_A => [0x4F]
  | .ld_D_B => [0x50]
  | .ld_D_C => [0x51]
  | .ld_D_D => [0x52]
  | .ld_D_E => [0x53]
  | .ld_D_H => [0x54]
  | .ld_D_L => [0x55]
  | .ld_D_mHL => [0x56]
  | .ld_D_A => [0x57]
  | .ld_E_B => [0x58]
  | .ld_E_C => [0x59]
  | .ld_E_D => [0x5A]
  | .ld_E_E => [0x5B]
  | .ld_E_H => [0x5C]
  | .ld_E_L => [0x5D]
  | .ld_E_mHL => [0x5E]
  | .ld_E_A => [0x5F]
  | .ld_H_B => [0x60]
  | .ld_H_C => [0x61]
  | .ld_H_D => [0x62]
  | .ld_H_E => [0x63]
  | .ld_H_H => [0x64]
  | .ld_H_L => [0x65]
  | .ld_H_mHL => [0x66]
  | .ld_H_A => [0x67]
  | .ld_L_B => [0x68]
  | .ld_L_C => [0x69]
  | .ld_L_D => [0x6A]
  | .ld_L_E => [0x6B]
  | .ld_L_H => [0x6C]
  | .ld_L_L => [0x6D]
  | .ld_L_mHL => [0x6E]
  | .ld_L_A => [0x6F]
  | .ld_mHL_B => [0x70]
  | .ld_mHL_C => [0x71]
  | .ld_mHL_D => [0x72]
  | .ld_mHL_E => [0x73]
  | .ld_mHL_H => [0x74]
  | .ld_mHL_L => [0x75]
  | .halt => [0x76]
  | .ld_mHL_A => [0x77]
  | .ld_A_B => [0x78]
  | .ld_A_C => [0x79]
  | .ld_A_D => [0x7A]
  | .ld_A_E => [0x7B]
  | .ld_A_H => [0x7C]
  | .ld_A_L => [0x7D]
  | .ld_A_mHL => [0x7E]
  | .ld_A_A => [0x7F]
  | .add_A_B => [0x80]
  | .add_A_C => [0x81]
  | .add_A_D => [0x82]
  | .add_A_E => [0x83]
  | .add_A_H => [0x84]
  | .add_A_L => [0x85]
  | .add_A_mHL => [0x86]
  | .add_A_A => [0x87]
  | .adc_A_B => [0x88]
  | .adc_A_C => [0x89]
  | .adc_A_D => [0x8A]
  | .adc_A_E => [0x8B]
  | .adc_A_H => [0x8C]
  | .adc_A_L => [0x8D]
  | .adc_A_mHL => [0x8E]
  | .adc_A_A => [0x8F]
  | .sub_B => [0x90]
  | .sub_C => [0x91]
  | .sub_D => [0x92]
  | .sub_E => [0x93]
  | .sub_H => [0x94]
  | .sub_L => [0x95]
  | .sub_mHL => [0x96]
  | .sub_A => [0x97]
  | .sbc_A_B => [0x98]
  | .sbc_A_C => [0x99]
  | .sbc_A_D => [0x9A]
  | .sbc_A_E => [0x9B]
  | .sbc_A_H => [0x9C]
  | .sbc_A_L => [0x9D]
  | .sbc_A_mHL => [0x9E]
  | .sbc_A_A => [0x9F]
  | .and_B => [0xA0]
  | .and_C => [0xA1]
  | .and_D => [0xA2]
  | .and_E => [0xA3]
  | .and_H => [0xA4]
  | .and_L => [0xA5]
  | .and_mHL => [0xA6]
  | .and_A => [0xA7]
  | .xor_B => [0xA8]
  | .xor_C => [0xA9]
  | .xor_D => [0xAA]
  | .xor_E => [0xAB]
  | .xor_H => [0xAC]
  | .xor_L => [0xAD]
  | .xor_mHL => [0xAE]
  | .xor_A => [0xAF]
  | .or_B => [0xB0]
  | .or_C => [0xB1]
  | .or_D => [0xB2]
  | .or_E => [0xB3]
  | .or_H => [0xB4]
  | .or_L => [0xB5]
  | .or_mHL => [0xB6]
  | .or_A => [0xB7]
  | .cp_B => [0xB8]
  | .cp_C => [0xB9]
  | .cp_D => [0xBA]
  | .cp_E => [0xBB]
  | .cp_H => [0xBC]
  | .cp_L => [0xBD]
  | .cp_mHL => [0xBE]
  | .cp_A => [0xBF]
  | .ret_NZ => [0xC0]
  | .pop_BC => [0xC1]
  | .jp_NZ_a16 nn => [0xC2, lo nn, hi nn]
  | .jp_a16 nn => [0xC3, lo nn, hi nn]
  | .call_NZ_a16 nn => [0xC4, lo nn, hi nn]
  | .push_BC => [0xC5]
  | .add_A_d8 n => [0xC6, n]
  | .rst_00 => [0xC7]
  | .ret_Z => [0xC8]
  | .ret => [0xC9]
  | .jp_Z_a16 nn => [0xCA, lo nn, hi nn]
  | .call_Z_a16 nn => [0xCC, lo nn, hi nn]
  | .call_a16 nn => [0xCD, lo nn, hi nn]
  | .adc_A_d8 n => [0xCE, n]
  | .rst_08 => [0xCF]
  | .ret_NC => [0xD0]
  | .pop_DE => [0xD1]
  | .jp_NC_a16 nn => [0xD2, lo nn, hi nn]
  | .invalid op => [op]
  | .call_NC_a16 nn => [0xD4, lo nn, hi nn]
  | .push_DE => [0xD5]
  | .sub_d8 n => [0xD6, n]
  | .rst_10 => [0xD7]
  | .ret_C => [0xD8]
  | .reti => [0xD9]
  | .jp_C_a16 nn => [0xDA, lo nn, hi nn]
  | .call_C_a16 nn => [0xDC, lo nn, hi nn]
  | .sbc_A_d8 n => [0xDE, n]
  | .rst_18 => [0xDF]
  | .ldh_ma8_A n => [0xE0, n]
  | .pop_HL => [0xE1]
  | .ld_mC_A => [0xE2]
  | .push_HL => [0xE5]
  | .and_d8 n => [0xE6, n]
  | .rst_20 => [0xE7]
  | .add_SP_e8 e => [0xE8, e]
  | .jp_HL => [0xE9]
  | .ld_ma16_A nn => [0xEA, lo nn, hi nn]
  | .xor_d8 n => [0xEE, n]
  | .rst_28 => [0xEF]
  | .ldh_A_ma8 n => [0xF0, n]
  | .pop_AF => [0xF1]
  | .ld_A_mC => [0xF2]
  | .di => [0xF3]
  | .push_AF => [0xF5]
  | .or_d8 n => [0xF6, n]
  | .rst_30 => [0xF7]
  | .ld_HL_SPe8 e => [0xF8, e]
  | .ld_SP_HL => [0xF9]
  | .ld_A_ma16 nn => [0xFA, lo nn, hi nn]
  | .ei => [0xFB]
  | .cp_d8 n => [0xFE, n]
  | .rst_38 => [0xFF]
  | .rlc_B => [0xCB, 0x00]
  | .rlc_C => [0xCB, 0x01]
  | .rlc_D => [0xCB, 0x02]
  | .rlc_E => [0xCB, 0x03]
  | .rlc_H => [0xCB, 0x04]
  | .rlc_L => [0xCB, 0x05]
  | .rlc_mHL => [0xCB, 0x06]
  | .rlc_A => [0xCB, 0x07]
  | .rrc_B => [0xCB, 0x08]
  | .rrc_C => [0xCB, 0x09]
  | .rrc_D => [0xCB, 0x0A]
  | .rrc_E => [0xCB, 0x0B]
  | .rrc_H => [0xCB, 0x0C]
  | .rrc_L => [0xCB, 0x0D]
  | .rrc_mHL => [0xCB, 0x0E]
  | .rrc_A => [0xCB, 0x0F]
  | .rl_B => [0xCB, 0x10]
  | .rl_C => [0xCB, 0x11]
  | .rl_D => [0xCB, 0x12]
  | .rl_E => [0xCB, 0x13]
  | .rl_H => [0xCB, 0x14]
  | .rl_L => [0xCB, 0x15]
  | .rl_mHL => [0xCB, 0x16]
  | .rl_A => [0xCB, 0x17]
  | .rr_B => [0xCB, 0x18]
  | .rr_C => [0xCB, 0x19]
  | .rr_D => [0xCB, 0x1A]
  | .rr_E => [0xCB, 0x1B]
  | .rr_H => [0xCB, 0x1C]
  | .rr_L => [0xCB, 0x1D]
  | .rr_mHL => [0xCB, 0x1E]
  | .rr_A => [0xCB, 0x1F]
  | .sla_B => [0xCB, 0x20]
  | .sla_C => [0xCB, 0x21]
  | .sla_D => [0xCB, 0x22]
  | .sla_E => [0xCB, 0x23]
  | .sla_H => [0xCB, 0x24]
  | .sla_L => [0xCB, 0x25]
  | .sla_mHL => [0xCB, 0x26]
  | .sla_A => [0xCB, 0x27]
  | .sra_B => [0xCB, 0x28]
  | .sra_C => [0xCB, 0x29]
  | .sra_D => [0xCB, 0x2A]
  | .sra_E => [0xCB, 0x2B]
  | .sra_H => [0xCB, 0x2C]
  | .sra_L => [0xCB, 0x2D]
  | .sra_mHL => [0xCB, 0x2E]
  | .sra_A => [0xCB, 0x2F]
  | .swap_B => [0xCB, 0x30]
  | .swap_C => [0xCB, 0x31]
  | .swap_D => [0xCB, 0x32]
  | .swap_E => [0xCB, 0x33]
  | .swap_H => [0xCB, 0x34]
  | .swap_L => [0xCB, 0x35]
  | .swap_mHL => [0xCB, 0x36]
  | .swap_A => [0xCB, 0x37]
  | .srl_B => [0xCB, 0x38]
  | .srl_C => [0xCB, 0x39]
  | .srl_D => [0xCB, 0x3A]
  | .srl_E => [0xCB, 0x3B]
  | .srl_H => [0xCB, 0x3C]
  | .srl_L => [0xCB, 0x3D]
  | .srl_mHL => [0xCB, 0x3E]
  | .srl_A => [0xCB, 0x3F]
  | .bit_0_B => [0xCB, 0x40]
  | .bit_0_C => [0xCB, 0x41]
  | .bit_0_D => [0xCB, 0x42]
  | .bit_0_E => [0xCB, 0x43]
  | .bit_0_H => [0xCB, 0x44]
  | .bit_0_L => [0xCB, 0x45]
  | .bit_0_mHL => [0xCB, 0x46]
  | .bit_0_A => [0xCB, 0x47]
  | .bit_1_B => [0xCB, 0x48]
  | .bit_1_C => [0xCB, 0x49]
  | .bit_1_D => [0xCB, 0x4A]
  | .bit_1_E => [0xCB, 0x4B]
  | .bit_1_H => [0xCB, 0x4C]
  | .bit_1_L => [0xCB, 0x4D]
  | .bit_1_mHL => [0xCB, 0x4E]
  | .bit_1_A => [0xCB, 0x4F]
  | .bit_2_B => [0xCB, 0x50]
  | .bit_2_C => [0xCB, 0x51]
  | .bit_2_D => [0xCB, 0x52]
  | .bit_2_E => [0xCB, 0x53]
  | .bit_2_H => [0xCB, 0x54]
  | .bit_2_L => [0xCB, 0x55]
  | .bit_2_mHL => [0xCB, 0x56]
  | .bit_2_A => [0xCB, 0x57]
  | .bit_3_B => [0xCB, 0x58]
  | .bit_3_C => [0xCB, 0x59]
  | .bit_3_D => [0xCB, 0x5A]
  | .bit_3_E => [0xCB, 0x5B]
  | .bit_3_H => [0xCB, 0x5C]
  | .bit_3_L => [0xCB, 0x5D]
  | .bit_3_mHL => [0xCB, 0x5E]
  | .bit_3_A => [0xCB, 0x5F]
  | .bit_4_B => [0xCB, 0x60]
  | .bit_4_C => [0xCB, 0x61]
  | .bit_4_D => [0xCB, 0x62]
  | .bit_4_E => [0xCB, 0x63]
  | .bit_4_H => [0xCB, 0x64]
  | .bit_4_L => [0xCB, 0x65]
  | .bit_4_mHL => [0xCB, 0x66]
  | .bit_4_A => [0xCB, 0x67]
  | .bit_5_B => [0xCB, 0x68]
  | .bit_5_C => [0xCB, 0x69]
  | .bit_5_D => [0xCB, 0x6A]
  | .bit_5_E => [0xCB, 0x6B]
  | .bit_5_H => [0xCB, 0x6C]
  | .bit_5_L => [0xCB, 0x6D]
  | .bit_5_mHL => [0xCB, 0x6E]
  | .bit_5_A => [0xCB, 0x6F]
  | .bit_6_B => [0xCB, 0x70]
  | .bit_6_C => [0xCB, 0x71]
  | .bit_6_D => [0xCB, 0x72]
  | .bit_6_E => [0xCB, 0x73]
  | .bit_6_H => [0xCB, 0x74]
  | .bit_6_L => [0xCB, 0x75]
  | .bit_6_mHL => [0xCB, 0x76]
  | .bit_6_A => [0xCB, 0x77]
  | .bit_7_B => [0xCB, 0x78]
  | .bit_7_C => [0xCB, 0x79]
  | .bit_7_D => [0xCB, 0x7A]
  | .bit_7_E => [0xCB, 0x7B]
  | .bit_7_H => [0xCB, 0x7C]
  | .bit_7_L => [0xCB, 0x7D]
  | .bit_7_mHL => [0xCB, 0x7E]
  | .bit_7_A => [0xCB, 0x7F]
  | .res_0_B => [0xCB, 0x80]
  | .res_0_C => [0xCB, 0x81]
  | .res_0_D => [0xCB, 0x82]
  | .res_0_E => [0xCB, 0x83]
  | .res_0_H => [0xCB, 0x84]
  | .res_0_L => [0xCB, 0x85]
  | .res_0_mHL => [0xCB, 0x86]
  | .res_0_A => [0xCB, 0x87]
  | .res_1_B => [0xCB, 0x88]
  | .res_1_C => [0xCB, 0x89]
  | .res_1_D => [0xCB, 0x8A]
  | .res_1_E => [0xCB, 0x8B]
  | .res_1_H => [0xCB, 0x8C]
  | .res_1_L => [0xCB, 0x8D]
  | .res_1_mHL => [0xCB, 0x8E]
  | .res_1_A => [0xCB, 0x8F]
  | .res_2_B => [0xCB, 0x90]
  | .res_2_C => [0xCB, 0x91]
  | .res_2_D => [0xCB, 0x92]
  | .res_2_E => [0xCB, 0x93]
  | .res_2_H => [0xCB, 0x94]
  | .res_2_L => [0xCB, 0x95]
  | .res_2_mHL => [0xCB, 0x96]
  | .res_2_A => [0xCB, 0x97]
  | .res_3_B => [0xCB, 0x98]
  | .res_3_C => [0xCB, 0x99]
  | .res_3_D => [0xCB, 0x9A]
  | .res_3_E => [0xCB, 0x9B]
  | .res_3_H => [0xCB, 0x9C]
  | .res_3_L => [0xCB, 0x9D]
  | .res_3_mHL => [0xCB, 0x9E]
  | .res_3_A => [0xCB, 0x9F]
  | .res_4_B => [0xCB, 0xA0]
  | .res_4_C => [0xCB, 0xA1]
  | .res_4_D => [0xCB, 0xA2]
  | .res_4_E => [0xCB, 0xA3]
  | .res_4_H => [0xCB, 0xA4]
  | .res_4_L => [0xCB, 0xA5]
  | .res_4_mHL => [0xCB, 0xA6]
  | .res_4_A => [0xCB, 0xA7]
  | .res_5_B => [0xCB, 0xA8]
  | .res_5_C => [0xCB, 0xA9]
  | .res_5_D => [0xCB, 0xAA]
  | .res_5_E => [0xCB, 0xAB]
  | .res_5_H => [0xCB, 0xAC]
  | .res_5_L => [0xCB, 0xAD]
  | .res_5_mHL => [0xCB, 0xAE]
  | .res_5_A => [0xCB, 0xAF]
  | .res_6_B => [0xCB, 0xB0]
  | .res_6_C => [0xCB, 0xB1]
  | .res_6_D => [0xCB, 0xB2]
  | .res_6_E => [0xCB, 0xB3]
  | .res_6_H => [0xCB, 0xB4]
  | .res_6_L => [0xCB, 0xB5]
  | .res_6_mHL => [0xCB, 0xB6]
  | .res_6_A => [0xCB, 0xB7]
  | .res_7_B => [0xCB, 0xB8]
  | .res_7_C => [0xCB, 0xB9]
  | .res_7_D => [0xCB, 0xBA]
  | .res_7_E => [0xCB, 0xBB]
  | .res_7_H => [0xCB, 0xBC]
  | .res_7_L => [0xCB, 0xBD]
  | .res_7_mHL => [0xCB, 0xBE]
  | .res_7_A => [0xCB, 0xBF]
  | .set_0_B => [0xCB, 0xC0]
  | .set_0_C => [0xCB, 0xC1]
  | .set_0_D => [0xCB, 0xC2]
  | .set_0_E => [0xCB, 0xC3]
  | .set_0_H => [0xCB, 0xC4]
  | .set_0_L => [0xCB, 0xC5]
  | .set_0_mHL => [0xCB, 0xC6]
  | .set_0_A => [0xCB, 0xC7]
  | .set_1_B => [0xCB, 0xC8]
  | .set_1_C => [0xCB, 0xC9]
  | .set_1_D => [0xCB, 0xCA]
  | .set_1_E => [0xCB, 0xCB]
  | .set_1_H => [0xCB, 0xCC]
  | .set_1_L => [0xCB, 0xCD]
  | .set_1_mHL => [0xCB, 0xCE]
  | .set_1_A => [0xCB, 0xCF]
  | .set_2_B => [0xCB, 0xD0]
  | .set_2_C => [0xCB, 0xD1]
  | .set_2_D => [0xCB, 0xD2]
  | .set_2_E => [0xCB, 0xD3]
  | .set_2_H => [0xCB, 0xD4]
  | .set_2_L => [0xCB, 0xD5]
  | .set_2_mHL => [0xCB, 0xD6]
  | .set_2_A => [0xCB, 0xD7]
  | .set_3_B => [0xCB, 0xD8]
  | .set_3_C => [0xCB, 0xD9]
  | .set_3_D => [0xCB, 0xDA]
  | .set_3_E => [0xCB, 0xDB]
  | .set_3_H => [0xCB, 0xDC]
  | .set_3_L => [0xCB, 0xDD]
  | .set_3_mHL => [0xCB, 0xDE]
  | .set_3_A => [0xCB, 0xDF]
  | .set_4_B => [0xCB, 0xE0]
  | .set_4_C => [0xCB, 0xE1]
  | .set_4_D => [0xCB, 0xE2]
  | .set_4_E => [0xCB, 0xE3]
  | .set_4_H => [0xCB, 0xE4]
  | .set_4_L => [0xCB, 0xE5]
  | .set_4_mHL => [0xCB, 0xE6]
  | .set_4_A => [0xCB, 0xE7]
  | .set_5_B => [0xCB, 0xE8]
  | .set_5_C => [0xCB, 0xE9]
  | .set_5_D => [0xCB, 0xEA]
  | .set_5_E => [0xCB, 0xEB]
  | .set_5_H => [0xCB, 0xEC]
  | .set_5_L => [0xCB, 0xED]
  | .set_5_mHL => [0xCB, 0xEE]
  | .set_5_A => [0xCB, 0xEF]
  | .set_6_B => [0xCB, 0xF0]
  | .set_6_C => [0xCB, 0xF1]
  | .set_6_D => [0xCB, 0xF2]
  | .set_6_E => [0xCB, 0xF3]
  | .set_6_H => [0xCB, 0xF4]
  | .set_6_L => [0xCB, 0xF5]
  | .set_6_mHL => [0xCB, 0xF6]
  | .set_6_A => [0xCB, 0xF7]
  | .set_7_B => [0xCB, 0xF8]
  | .set_7_C => [0xCB, 0xF9]
  | .set_7_D => [0xCB, 0xFA]
  | .set_7_E => [0xCB, 0xFB]
  | .set_7_H => [0xCB, 0xFC]
  | .set_7_L => [0xCB, 0xFD]
  | .set_7_mHL => [0xCB, 0xFE]
  | .set_7_A => [0xCB, 0xFF]

/-- The bytes of an instruction that spec/opcode_table.json numbers `nbits` bits with the value `w`. The table gives an
unprefixed row its 8 opcode bits. It gives a prefixed row 16 bits written as one number with the prefix 0xCB in bits 15
to 8 and the second byte in bits 7 to 0. Any other number is read with the first byte in bits 7 to 0. Operand bytes above
`nbits` are 0. DEDUCED from the table's own rows, log 15. -/
def tableBytes (nbits w : Nat) : List Byte :=
  let v := w % 2 ^ nbits
  if nbits = 16 ∧ v / 256 = 0xCB then [0xCB, BitVec.ofNat 8 v, 0]
  else [BitVec.ofNat 8 v, BitVec.ofNat 8 (v / 256), BitVec.ofNat 8 (v / 65536)]

/-- The instruction the decoder reads from a word of the opcode table, `none` where it refuses. -/
def decodeTableWord (nbits w : Nat) : Option Instr :=
  match decode (tableBytes nbits w) with
  | .ok (i, _) => some i
  | .error _ => none

end Sys2Proof
end

