-- ==== Sys2Proof/Machine/Fetch.lean ====
section
/-! DEFINITION. Fetching an instruction (R109, R112): its bytes are read one by one, in order, and no byte beyond its length. -/

namespace Sys2Proof.Machine

/-- The address that `Fetch(i)` reads (R112): with the halt-bug latch set, byte 0 and byte 1 are both read at PC. -/
def State.fetchAddr (s : State) (i : Nat) : Word :=
  s.pc + BitVec.ofNat 16 i - BitVec.ofNat 16 (if s.haltBug = true ∧ i ≥ 1 then 1 else 0)

/-- `Fetch(i)`: one bus read (R112). -/
def State.fetch (s : State) (i : Nat) : Byte × State := s.busRead (s.fetchAddr i)

/-- `Fetch(i)`, `Fetch(i+1)`, ..., `n` bytes in that order (R78, R112). -/
def State.fetchFrom (s : State) (i : Nat) : Nat → List Byte × State
  | 0 => ([], s)
  | n + 1 =>
    let r := s.fetch i
    let q := r.2.fetchFrom (i + 1) n
    (r.1 :: q.1, q.2)

/-- A fetched instruction: its first byte, the instruction, and the state after the fetches. -/
structure Fetched where
  b0    : Byte
  instr : Instr
  state : State

/-- The fetch of one instruction (R109): the first byte, then as many bytes as its entry of the opcode map takes. -/
def fetchInstr (s : State) : Fetched :=
  let r := s.fetch 0
  let e := unprefixed r.1
  let q := r.2.fetchFrom 1 e.operandBytes
  { b0 := r.1, instr := e.instr r.1 (pick 0 q.1 0) (pick 0 q.1 1), state := q.2 }

/-- Bytes placed where the next fetches read, `Fetch(i)` onwards, as the embedder places a program (R43). -/
def State.placeAt (s : State) (i : Nat) : List Byte → State
  | [] => s
  | b :: bs => ({ s with mem := s.mem.write (s.fetchAddr i).toNat b }).placeAt (i + 1) bs

end Sys2Proof.Machine
end

