-- ==== Sys2Proof/Machine/Boundary.lean ====
section
/-! DEFINITION. One call of the core's step operation (R109, R386), and one turn of the collaborator's loop around it (R406). -/

namespace Sys2Proof.Machine

/-- An instruction step (R109): fetch, execute, StepEnd. An invalid opcode ends it with its fault, before anything is written and without
StepEnd (R401); the state that the fault carries is the one after the fetch, so that the one opcode read is recorded (R79). -/
def instrStep (s : State) : Out :=
  let r := fetchInstr s
  mapNext (fun t => t.stepEnd s.ime r.b0) (exec r.instr r.state)

/-- `step(irq_pending)` (R109), the input being that of this boundary. A stopped or halted step executes nothing, costs 1, makes
no access and skips StepEnd; a halted one leaves `halted` when an interrupt is requested (R386). -/
def coreStep (s : State) : Out :=
  if s.stopped then .next (s.spend 1)
  else if s.halted then .next (({ s with halted := !s.irqPending }).spend 1)
  else instrStep s

/-- What the collaborator does first at a boundary: `Wake()` if it calls it (R414, log 8). -/
def State.wakeIfAsked (s : State) : State := if s.input.wake then s.wake else s

/-- One turn of the collaborator's loop (R406): with IME = ENABLED and a request it services the interrupt at the vector it
chose, else it calls `step`. The boundary's input is then used up (log 7). `Wake()` comes first, whatever the turn then does:
where the step reports `InvalidOpcode`, the state left is the woken one, `stopped` = 0, with the input used up. The spec leaves
the place of `Wake()` in the loop open; this is the model's choice (log 8, log 10). -/
def boundary (s : State) : Out :=
  let s0 := s.wakeIfAsked
  if s0.ime = .enabled ∧ s0.irqPending = true then endTurn (serviceInterrupt s0 s0.input.vector)
  else endTurn (coreStep s0)

end Sys2Proof.Machine
end

