-- ==== Sys2Proof/Machine/Platform.lean ====
section
/-! DEFINITION. The platform's interrupt sources (R405, R408), outside the core: from the bytes IE and IF that a platform
holds, what its collaborator presents at a boundary. -/

namespace Sys2Proof.Machine

/-- The interrupt sources of the platform, in order of priority (R405). -/
inductive IrqSource where
  | vblank | lcdStat | timer | serial | joypad
  deriving DecidableEq, Repr

/-- The bit of a source in IE and IF (R405). -/
def IrqSource.bitNo : IrqSource → Nat
  | .vblank => 0 | .lcdStat => 1 | .timer => 2 | .serial => 3 | .joypad => 4

/-- The vector of a source (R405). -/
def IrqSource.vector : IrqSource → Word
  | .vblank => 0x0040 | .lcdStat => 0x0048 | .timer => 0x0050 | .serial => 0x0058 | .joypad => 0x0060

/-- The requested and enabled sources, highest priority first (R405, R408). -/
def requested (ie iflag : Byte) : List IrqSource :=
  [IrqSource.vblank, .lcdStat, .timer, .serial, .joypad].filter fun x => bit (ie &&& iflag) x.bitNo

/-- What the platform's collaborator presents: `irq_pending` is true when a source is requested and enabled, and it chooses the
lowest-numbered one (R405, R408). -/
def BoundaryInput.ofPlatform (ie iflag : Byte) (wake : Bool) : BoundaryInput :=
  match requested ie iflag with
  | [] => { irqPending := false, vector := 0x0000, wake := wake }
  | x :: _ => { irqPending := true, vector := x.vector, wake := wake }

end Sys2Proof.Machine
end

