-- ==== Sys2Proof/Machine/Step.lean ====
section
/-! DEFINITION. The step of the machine, and placing an instruction where the step fetches. -/

namespace Sys2Proof.Machine

/-- One step: one turn of the collaborator's loop (R406), that is one instruction, one halted or stopped M-cycle, one interrupt
entry, or the report of an invalid opcode (R9). What one turn is, and where `Wake()` stands in it, is log 8. -/
def step (s : State) : Host.Outcome State Fault Refusal := boundary s

/-- `s` with the instruction that spec/opcode_table.json numbers `w` in `nbits` bits placed where the next step fetches, and with
what makes the next step fetch it there: a FLAT bus, the latches clear, and an idle boundary before the other inputs (log 16). -/
def State.withFetchWord (s : State) (nbits w : Nat) : State :=
  ({ s with halted := false, stopped := false, haltBug := false, params := { s.params with bus := .flat },
            inputs := .idle :: s.inputs }).placeAt 0 (tableBytes nbits w)

end Sys2Proof.Machine
end

