-- ==== Sys2Proof/Safety.lean ====
section
/-! DEFINITION. What claims call a sound state and a safe run. -/

namespace Sys2Proof.Machine

/-- The invariant of every state of the machine: F[3:0] = 0 (R32), and memory is in its canonical form. -/
def Sound (s : State) : Prop := s.f &&& 0x0F = 0 ∧ s.mem.wf = true

/-- The step goes on: neither a fault nor a refusal. -/
def Continues (s : State) : Prop := ∃ t, step s = .next t

/-- `n` steps go on, from `s`. -/
def SafeFor (n : Nat) (s : State) : Prop := ∃ t, Sys2Proof.core.run n s = .next t

/-- Every run from `s` goes on. -/
def Safe (s : State) : Prop := ∀ n, SafeFor n s

end Sys2Proof.Machine
end

