-- ==== Sys2Proof/Certificates/Slice0/Obligations.lean ====
section
/-! DEFINITION. The statements for the provers, and the words they share. -/

namespace Sys2Proof.Claims

open Sys2Proof Sys2Proof.Machine

/-! ### Words the statements share -/

/-- `u8(v) = v mod 256` of an unbounded integer (R7). -/
def u8 (v : Int) : Byte := BitVec.ofInt 8 v

/-- `u16(v) = v mod 65536` of an unbounded integer (R7). -/
def u16 (v : Int) : Word := BitVec.ofInt 16 v

/-- F.Z, bit 7 of F (R32). -/
def zf (s : State) : Bool := s.f.getLsbD 7

/-- F.N, bit 6 of F (R32). -/
def nf (s : State) : Bool := s.f.getLsbD 6

/-- F.H, bit 5 of F (R32). -/
def hf (s : State) : Bool := s.f.getLsbD 5

/-- F.C, bit 4 of F (R32). -/
def cf (s : State) : Bool := s.f.getLsbD 4

/-- F holds these four flags, and F[3:0] = 0 (R32). -/
def FlagsAre (t : State) (z n h c : Bool) : Prop :=
  zf t = z ∧ nf t = n ∧ hf t = h ∧ cf t = c ∧ t.f &&& 0x0F = 0

/-- The state in which an instruction of `cost` M-cycles that made the data accesses `acc` (newest first) and goes on at
`target` has changed nothing else: the frame of the statements below, to which each adds what it writes. -/
def went (s : State) (target : Word) (cost : Nat) (acc : List BusAccess) : State :=
  { s with pc := target, haltBug := false, cycles := s.cycles + cost, busLog := acc ++ s.busLog }

/-- The same for an instruction of `len` bytes that goes on at the next one (R113). -/
def passed (s : State) (len cost : Nat) (acc : List BusAccess) : State := went s (s.nextPC len) cost acc

/-- Memory of `t` is that of `s` but for the byte `v` at `addr`. -/
def StoresByte (s t : State) (addr : Word) (v : Byte) : Prop :=
  ∀ k : Nat, t.mem.read k = if k = addr.toNat then v else s.mem.read k

/-- Memory of `t` is that of `s` but for the byte `v` at `addr` and then the byte `v'` at `addr'`. -/
def StoresTwo (s t : State) (addr : Word) (v : Byte) (addr' : Word) (v' : Byte) : Prop :=
  ∀ k : Nat, t.mem.read k = if k = addr'.toNat then v' else if k = addr.toNat then v else s.mem.read k

/-- The read of the byte at HL, as an access. -/
def readHL (s : State) : BusAccess := .read s.hl (s.busValue s.hl)

/-- The value of an 8-bit operand (R103). -/
def locValue (s : State) : Loc8 → Byte
  | .reg r => s.get8 r
  | .mHL => s.busValue s.hl

/-- The data reads that an 8-bit operand takes. -/
def locReads (s : State) : Loc8 → List BusAccess
  | .reg _ => []
  | .mHL => [readHL s]

/-- `x` costs `r` for a register and `m` for the byte at HL. -/
def locCost (r m : Nat) : Loc8 → Nat
  | .reg _ => r
  | .mHL => m

/-- `t` is `u` with the 8-bit operand `x` set to `v`, and with the F that `t` has. -/
def Puts (u t : State) (x : Loc8) (v : Byte) : Prop :=
  match x with
  | .reg r => t = { u.set8 r v with f := t.f }
  | .mHL => t = { u with mem := t.mem, f := t.f, busLog := .write u.hl v :: u.busLog } ∧ StoresByte u t u.hl v

/-- The value of the second ALU operand (R230). -/
def srcValue (s : State) : AluSrc → Byte
  | .reg r => s.get8 r
  | .mHL => s.busValue s.hl
  | .d8 n => n

/-- The state an ALU instruction leaves but for A and F: length, cost and data access by the source (R230). -/
def aluPassed (s : State) : AluSrc → State
  | .reg _ => passed s 1 1 []
  | .mHL => passed s 1 2 [readHL s]
  | .d8 _ => passed s 2 2 []

/-- The bytes of an ALU instruction: rows 0x80 to 0xBF, and the d8 column (R107). -/
def aluBytes (op : AluOp) : AluSrc → List Byte
  | .reg r => [BitVec.ofNat 8 (0b10000000 + 8 * op.code + r.code)]
  | .mHL => [BitVec.ofNat 8 (0b10000110 + 8 * op.code)]
  | .d8 n => [BitVec.ofNat 8 (0b11000110 + 8 * op.code), n]

/-- The condition of a conditional instruction (R350). -/
def holds (s : State) : Cond → Bool
  | .nz => zf s = false
  | .z => zf s = true
  | .nc => cf s = false
  | .c => cf s = true

/-- The two bus writes of a push, newest first (R201). -/
def pushLog (s : State) (w : Word) : List BusAccess :=
  [.write (s.sp - 2) (lo w), .write (s.sp - 1) (hi w)]

/-- Memory of `t` is that of `s` but for `w` pushed: its high byte at SP-1 and its low byte at SP-2 (R201). -/
def Pushed (s t : State) (w : Word) : Prop := StoresTwo s t (s.sp - 1) (hi w) (s.sp - 2) (lo w)

/-- The low byte that a pop reads (R202). -/
def popLow (s : State) : Byte := s.busValue s.sp

/-- The high byte that a pop reads, after the low one (R202). -/
def popHigh (s : State) : Byte := (s.logAccess (.read s.sp (popLow s))).busValue (s.sp + 1)

/-- The two bus reads of a pop, newest first (R202). -/
def popLog (s : State) : List BusAccess := [.read (s.sp + 1) (popHigh s), .read s.sp (popLow s)]

/-- The word that a pop returns (R202). -/
def popWord (s : State) : Word := cat (popHigh s) (popLow s)

/-- The 11 invalid opcodes (R111). -/
def INVALID11 : List Byte := [0xD3, 0xDB, 0xDD, 0xE3, 0xE4, 0xEB, 0xEC, 0xED, 0xF4, 0xFC, 0xFD]

/-- The 26 opcodes of format U2 (R101). -/
def U2 : List Byte :=
  [0x06, 0x0E, 0x10, 0x16, 0x18, 0x1E, 0x20, 0x26, 0x28, 0x2E, 0x30, 0x36, 0x38] ++
  [0x3E, 0xC6, 0xCE, 0xD6, 0xDE, 0xE0, 0xE6, 0xE8, 0xEE, 0xF0, 0xF6, 0xF8, 0xFE]

/-- The 17 opcodes of format U3 (R101). -/
def U3 : List Byte :=
  [0x01, 0x08, 0x11, 0x21, 0x31, 0xC2, 0xC3, 0xC4, 0xCA, 0xCC, 0xCD, 0xD2, 0xD4, 0xDA, 0xDC, 0xEA, 0xFA]

/-- The length that the first byte determines, for a valid opcode or the prefix (R101). -/
def lengthOf (b0 : Byte) : Nat :=
  if b0 = 0xCB ∨ b0 ∈ U2 then 2 else if b0 ∈ U3 then 3 else 1

/-- The instruction is one of the 11 invalid rows. -/
def Invalid (i : Instr) : Prop := ∃ op, i = .invalid op

/-- The control-transfer instructions, whose own rules write PC (R351, R383). -/
def Transfers (i : Instr) : Prop :=
  (∃ nn, i = .jp_a16 nn) ∨ i = .jp_HL ∨ (∃ cc nn, i = Instr.jpCC cc nn) ∨ (∃ e, i = .jr_e8 e) ∨
  (∃ cc e, i = Instr.jrCC cc e) ∨ (∃ nn, i = .call_a16 nn) ∨ (∃ cc nn, i = Instr.callCC cc nn) ∨ i = .ret ∨
  (∃ cc, i = Instr.retCC cc) ∨ i = .reti ∨ ∃ y, i = Instr.rst y

/-- The instructions that write F: the rows of R36's table but the last. -/
def WritesFlags (i : Instr) : Prop :=
  (∃ op x, i = Instr.alu op x) ∨ (∃ x, i = Instr.inc8 x) ∨ (∃ x, i = Instr.dec8 x) ∨ i = .daa ∨ i = .scf ∨ i = .ccf ∨
  (∃ p, i = Instr.addHL p) ∨ (∃ e, i = .add_SP_e8 e) ∨ (∃ e, i = .ld_HL_SPe8 e) ∨ i = .cpl ∨
  (∃ b x, i = Instr.bit b x) ∨ (∃ op x, i = Instr.rot op x) ∨ (∃ x, i = Instr.rotA x) ∨ i = .pop_AF

/-- The instructions that keep Z: a dash in the column Z of R36's table, other than those that do not write F. -/
def KeepsZ (i : Instr) : Prop := i = .scf ∨ i = .ccf ∨ (∃ p, i = Instr.addHL p) ∨ i = .cpl

/-- The instructions that keep C: a dash in the column C of R36's table, other than those that do not write F. -/
def KeepsC (i : Instr) : Prop := (∃ x, i = Instr.inc8 x) ∨ (∃ x, i = Instr.dec8 x) ∨ i = .cpl ∨ ∃ b x, i = Instr.bit b x

/-- The instructions that write SP (R33). -/
def WritesSP (i : Instr) : Prop :=
  (∃ nn, i = .ld_SP_d16 nn) ∨ i = .ld_SP_HL ∨ (∃ e, i = .add_SP_e8 e) ∨ i = .inc_SP ∨ i = .dec_SP ∨
  (∃ p, i = Instr.push p) ∨ (∃ p, i = Instr.pop p) ∨ (∃ nn, i = .call_a16 nn) ∨ (∃ cc nn, i = Instr.callCC cc nn) ∨
  (∃ y, i = Instr.rst y) ∨ i = .ret ∨ (∃ cc, i = Instr.retCC cc) ∨ i = .reti

/-- Memory after the writes among these accesses, the newest of which is first. -/
def applyWrites : List BusAccess → Memory → Memory
  | [], m => m
  | .read _ _ :: acc, m => applyWrites acc m
  | .write a v :: acc, m => (applyWrites acc m).write a.toNat v

/-- The address of an indirect operand of A (R166 to R169, R174 to R179). -/
def indAddress (s : State) : IndA → Word
  | .mBC => s.bc
  | .mDE => s.de
  | .mC => u16 (0xFF00 + s.c.toNat)
  | .ma8 n => u16 (0xFF00 + n.toNat)
  | .ma16 nn => nn

/-- Length and cost of the load or store of A at an indirect operand. -/
def indSize : IndA → Nat × Nat
  | .mBC => (1, 2)
  | .mDE => (1, 2)
  | .mC => (1, 2)
  | .ma8 _ => (2, 3)
  | .ma16 _ => (3, 4)

/-- The bytes of the load of A from an indirect operand. -/
def loadBytes : IndA → List Byte
  | .mBC => [0x0A]
  | .mDE => [0x1A]
  | .mC => [0xF2]
  | .ma8 n => [0xF0, n]
  | .ma16 nn => [0xFA, lo nn, hi nn]

/-- The bytes of the store of A at an indirect operand. -/
def storeBytes : IndA → List Byte
  | .mBC => [0x02]
  | .mDE => [0x12]
  | .mC => [0xE2]
  | .ma8 n => [0xE0, n]
  | .ma16 nn => [0xEA, lo nn, hi nn]

/-- What HL moves by in the post-modified forms (R170 to R173). -/
def postStep : PostHL → Int
  | .inc => 1
  | .dec => -1

/-- The result of a rotate or shift to the left, or of SWAP, as a number (R325, R329, R333, R337). -/
def leftValue (op : RotOp) (v : Nat) (c : Bool) : Nat :=
  match op with
  | .rlc => 2 * v % 256 + v / 128
  | .rl => 2 * v % 256 + bitNat c
  | .sla => 2 * v % 256
  | _ => v % 16 * 16 + v / 16

/-- The result of a rotate or shift to the right as a number (R327, R331, R335, R339). -/
def rightValue (op : RotOp) (v : Nat) (c : Bool) : Nat :=
  match op with
  | .rrc => v / 2 + v % 2 * 128
  | .rr => v / 2 + bitNat c * 128
  | .sra => v / 2 + v / 128 * 128
  | _ => v / 2

/-- Z after an accumulator rotate: kept, or cleared, as the parameter ACC_ROT_Z says (R320). -/
def accZ (s : State) : Bool :=
  match s.params.accRotZ with
  | .preserve => zf s
  | .clear => false

/-- A and C after DAA, on unbounded integers, statement by statement as R250 has it. -/
def daaValue (a : Int) (n h c : Bool) : Int × Bool :=
  if n = false then
    let up : Bool := c || decide (a > 0x99)
    let a1 := if up then a + 0x60 else a
    (if h || decide (a1 % 16 > 0x09) then a1 + 0x06 else a1, up)
  else
    let a1 := if c then a - 0x60 else a
    (if h then a1 - 0x06 else a1, c)

/-- What R388 says IME is after a step that executed an instruction with first byte `b0` and began with `ime0`. -/
def imeAfter (ime0 : Ime) (b0 : Byte) : Ime :=
  if b0 = 0xF3 then .disabled
  else if b0 = 0xD9 then .enabled
  else if b0 = 0xFB then (match ime0 with | .disabled => .pending | .pending => .enabled | .enabled => .enabled)
  else (match ime0 with | .disabled => .disabled | .pending => .enabled | .enabled => .enabled)

/-- This boundary is one at which the collaborator services an interrupt (R406), also while `stopped` = 1 (log 9). -/
def Services (s : State) : Prop := s.ime = .enabled ∧ s.irqPending = true

/-- The state that a report of InvalidOpcode leaves (R401): nothing changes but the record of the one opcode read (R79, log 5). -/
def reported (s : State) : State := { s with busLog := .read s.pc (s.busValue s.pc) :: s.busLog }

/-- The core executes an instruction in this step, or reports the invalid byte it fetches: it neither sleeps nor services an
interrupt. Wake comes first where the boundary's input asks for it (log 8). -/
def Awake (s : State) : Prop :=
  s.wakeIfAsked.stopped = false ∧ s.halted = false ∧ ¬ Services s

end Sys2Proof.Claims

open Sys2Proof Sys2Proof.Machine Sys2Proof.Claims

/-! ### Encoding -/

/-- R100, R117: the decoder gives back every well-formed instruction from its bytes, whatever bytes follow. -/
def Obligations.DecodeOfEncode : Prop :=
  ∀ (i : Instr) (rest : List Byte), i.wellFormed = true → decode (encode i ++ rest) = .ok (i, rest)

/-- R100, R117: what the decoder accepts is a well-formed instruction, and the bytes it took are exactly that
instruction's: no two byte strings of one length stand for one instruction. -/
def Obligations.EncodeOfDecode : Prop :=
  ∀ (bs rest : List Byte) (i : Instr), decode bs = .ok (i, rest) → i.wellFormed = true ∧ bs = encode i ++ rest

/-- R101: the first byte alone determines the length. For a first byte that is no invalid opcode, enough bytes decode to an
instruction of that length, and fewer are refused as truncated. -/
def Obligations.FirstByteFixesLength : Prop :=
  ∀ (b0 : Byte) (bs : List Byte), b0 ∉ INVALID11 →
    if lengthOf b0 ≤ (b0 :: bs).length then
      ∃ i, decode (b0 :: bs) = .ok (i, bs.drop (lengthOf b0 - 1)) ∧ (encode i).length = lengthOf b0
    else decode (b0 :: bs) = .error (.truncated b0)

/-- R107: the operation selectors of rows 0x80 to 0xBF, of the d8 column, and of the prefixed groups. -/
def Obligations.OperationSelectors : Prop :=
  (∀ (op : AluOp) (x : AluSrc) (rest : List Byte), decode (aluBytes op x ++ rest) = .ok (Instr.alu op x, rest)) ∧
  (∀ (op : RotOp) (z : Loc8) (rest : List Byte),
    decode (0xCB :: BitVec.ofNat 8 (8 * op.code + z.code) :: rest) = .ok (Instr.rot op z, rest)) ∧
  (∀ (b : Sel3) (z : Loc8) (rest : List Byte),
    decode (0xCB :: BitVec.ofNat 8 (0b01000000 + 8 * b.toNat + z.code) :: rest) = .ok (Instr.bit b z, rest) ∧
    decode (0xCB :: BitVec.ofNat 8 (0b10000000 + 8 * b.toNat + z.code) :: rest) = .ok (Instr.res b z, rest) ∧
    decode (0xCB :: BitVec.ofNat 8 (0b11000000 + 8 * b.toNat + z.code) :: rest) = .ok (Instr.set b z, rest))

/-- R111: exactly the 11 bytes decode to an invalid instruction, and each raises `InvalidOpcode(b0, false)`. What state the
report leaves is said in `InvalidByteFaults`. -/
def Obligations.ElevenInvalidOpcodes : Prop :=
  INVALID11.length = 11 ∧ INVALID11.Nodup ∧
  (∀ (b0 : Byte) (bs rest : List Byte) (i : Instr), decode (b0 :: bs) = .ok (i, rest) → (Invalid i ↔ b0 ∈ INVALID11)) ∧
  ∀ b0 ∈ INVALID11, ∀ (bs : List Byte) (s : State), decode (b0 :: bs) = .ok (.invalid b0, bs) ∧
    ∃ t, exec (.invalid b0) s = .fault (.invalidOpcode b0 false t)

/-- R115, which the spec derives from R110: every prefixed pair is a valid instruction, and no step raises
`InvalidOpcode(byte, true)`. -/
def Obligations.PrefixedSpaceComplete : Prop :=
  (∀ (b1 : Byte) (rest : List Byte), ∃ i, decode (0xCB :: b1 :: rest) = .ok (i, rest) ∧ ¬ Invalid i) ∧
  ∀ (s t : State) (b : Byte), step s ≠ .fault (.invalidOpcode b true t)

/-- A few words of R117 written out in bits, one or more for each section of the instruction catalog. -/
def Obligations.EncodingsAsWritten : Prop :=
  decode [0b01000001] = .ok (.ld_B_C, []) ∧ decode [0b00110110, 0x77] = .ok (.ld_mHL_d8 0x77, []) ∧
  decode [0b00100001, 0x34, 0x12] = .ok (.ld_HL_d16 0x1234, []) ∧ decode [0b11110101] = .ok (.push_AF, []) ∧
  decode [0b10001000] = .ok (.adc_A_B, []) ∧ decode [0b00101101] = .ok (.dec_L, []) ∧
  decode [0b00111001] = .ok (.add_HL_SP, []) ∧ decode [0b11101110, 0x0F] = .ok (.xor_d8 0x0F, []) ∧
  decode [0xCB, 0b01111100] = .ok (.bit_7_H, []) ∧ decode [0xCB, 0b00011110] = .ok (.rr_mHL, []) ∧
  decode [0b11011100, 0x00, 0x20] = .ok (.call_C_a16 0x2000, []) ∧ decode [0b11101111] = .ok (.rst_28, []) ∧
  decode [0b01110110] = .ok (.halt, []) ∧ decode [0b00010000, 0x00] = .ok (.stop 0x00, [])

/-! ### The arithmetic primitives -/

/-- R140, R141, R143, R144: the 8-bit sums and differences, with carry and half-carry as unsigned overflow and borrow. -/
def Obligations.ByteArithmetic : Prop :=
  ∀ (a b : Byte) (cin : Bool),
    add8 a b = { result := u8 (a.toNat + b.toNat), carry := decide (a.toNat + b.toNat > 0xFF),
                 halfcarry := decide (a.toNat % 16 + b.toNat % 16 > 0xF) } ∧
    sub8 a b = { result := u8 (a.toNat - b.toNat), carry := decide (b.toNat > a.toNat),
                 halfcarry := decide (b.toNat % 16 > a.toNat % 16) } ∧
    adc8 a b cin = { result := u8 (a.toNat + b.toNat + bitNat cin),
                     carry := decide (a.toNat + b.toNat + bitNat cin > 0xFF),
                     halfcarry := decide (a.toNat % 16 + b.toNat % 16 + bitNat cin > 0xF) } ∧
    sbc8 a b cin = { result := u8 (a.toNat - b.toNat - bitNat cin), carry := decide (b.toNat + bitNat cin > a.toNat),
                     halfcarry := decide (b.toNat % 16 + bitNat cin > a.toNat % 16) } ∧
    adc8 a b false = add8 a b ∧ sbc8 a b false = sub8 a b

/-- R142, R145: the 16-bit sum with half-carry out of bit 11, and SP plus a signed byte with the flags of the low byte. The spec
derives R145 from R140 and the source's sentence on the SP+e forms. -/
def Obligations.WordArithmetic : Prop :=
  (∀ a b : Word,
    add16 a b = { result := u16 (a.toNat + b.toNat), carry := decide (a.toNat + b.toNat > 0xFFFF),
                  halfcarry := decide (a.toNat % 4096 + b.toNat % 4096 > 0xFFF) }) ∧
  ∀ (sp : Word) (e : Byte),
    addSPe sp e = { result := u16 (sp.toNat + e.toInt), carry := decide (sp.toNat % 256 + e.toNat > 0xFF),
                    halfcarry := decide (sp.toNat % 16 + e.toNat % 16 > 0xF) }

/-! ### Registers and memory -/

/-- R31: the 16-bit views, what a 16-bit write sets, and that an 8-bit write changes its own register only. -/
def Obligations.RegisterViews : Prop :=
  ∀ (s : State) (w : Word) (v : Byte),
    s.bc.toNat = s.b.toNat * 256 + s.c.toNat ∧ s.de.toNat = s.d.toNat * 256 + s.e.toNat ∧
    s.hl.toNat = s.h.toNat * 256 + s.l.toNat ∧ s.af.toNat = s.a.toNat * 256 + s.readF.toNat ∧
    (hi w).toNat = w.toNat / 256 ∧ (lo w).toNat = w.toNat % 256 ∧
    s.writePair .bc w = { s with b := hi w, c := lo w } ∧ s.writePair .de w = { s with d := hi w, e := lo w } ∧
    s.writePair .hl w = { s with h := hi w, l := lo w } ∧ s.writePair .af w = { s with a := hi w, f := lo w &&& 0xF0 } ∧
    s.writePair .sp w = { s with sp := w } ∧ s.writePair .pc w = { s with pc := w } ∧
    (∀ p, p ≠ .af → (s.writePair p w).readPair p = w) ∧ (s.writePair .af w).readPair .af = w &&& 0xFFF0 ∧
    (∀ r r', (s.set8 r v).get8 r' = if r' = r then v else s.get8 r') ∧
    ∀ r, s.set8 r v = { s with a := (s.set8 r v).a, b := (s.set8 r v).b, c := (s.set8 r v).c, d := (s.set8 r v).d,
                               e := (s.set8 r v).e, h := (s.set8 r v).h, l := (s.set8 r v).l }

/-- R32: the four flags are F[7:4], every write of F keeps F[3:0] = 0, every read returns F[3:0] = 0, and writing one flag
keeps the other three. -/
def Obligations.FlagByte : Prop :=
  ∀ (s : State) (v : Byte) (b : Bool) (x : FlagName),
    s.readFlag .z = zf s ∧ s.readFlag .n = nf s ∧ s.readFlag .h = hf s ∧ s.readFlag .c = cf s ∧
    s.readReg .f &&& 0x0F = 0 ∧ s.writeReg .f v = { s with f := v &&& 0xF0 } ∧
    s.writeFlag x b = { s with f := (s.writeFlag x b).f } ∧ (s.writeFlag x b).f &&& 0x0F = 0 ∧
    ∀ y, (s.writeFlag x b).readFlag y = if y = x then b else s.readFlag y

/-- The model's memory (log 2): two canonical memories that read the same at every address are equal as data. -/
def Obligations.CanonicalMemoryUnique : Prop :=
  ∀ m m' : Memory, m.wf = true → m'.wf = true → (∀ k < 65536, m.read k = m'.read k) → m = m'

/-- R71, R82: on a FLAT bus a read returns the byte most recently written at that address; a read changes nothing but the
record of accesses. The write is total: it takes every address. -/
def Obligations.FlatBusReadsLastWrite : Prop :=
  ∀ (s : State) (addr x : Word) (v : Byte), s.params.bus = .flat →
    (s.busWrite addr v).busValue x = (if x = addr then v else s.busValue x) ∧
    s.busRead x = (s.mem.read x.toNat, { s with busLog := .read x (s.mem.read x.toNat) :: s.busLog })

/-! ### The step -/

/-- R109, with the order of R78 and R85 (all fetches before the instruction's data accesses): when the bytes that the step
fetches decode to the instruction `i`, the step is `exec i` on the state after those fetches, then StepEnd. Three clauses are
the model's choice and no rule's: the state is the one after Wake where the input asks for it (log 8), the input of the boundary
is used up (log 7), and a report of InvalidOpcode carries the state it leaves (log 10). -/
def Obligations.StepRunsDecodedInstruction : Prop :=
  ∀ (s : State) (n : Nat) (i : Instr), Awake s → decode (s.wakeIfAsked.fetchFrom 0 n).1 = .ok (i, []) →
    step s = endTurn (mapNext (fun t => t.stepEnd s.ime ((encode i).headD 0)) (exec i (s.wakeIfAsked.fetchFrom 0 n).2))

/-- R112, R113: byte i of an instruction is one read at PC + i, less one for the bytes after the first when the halt-bug latch
is set; the fetches come in increasing order, for exactly the bytes of the instruction; and NextPC(len) is
u16(PC + len - hb0). -/
def Obligations.FetchAtPC : Prop :=
  (∀ (s : State) (i n : Nat), s.fetchFrom i (n + 1) =
    let addr := u16 (s.pc.toNat + i - (if s.haltBug = true ∧ i ≥ 1 then 1 else 0))
    let s1 := { s with busLog := .read addr (s.busValue addr) :: s.busLog }
    (s.busValue addr :: (s1.fetchFrom (i + 1) n).1, (s1.fetchFrom (i + 1) n).2)) ∧
  (∀ (s : State) (i : Nat), s.fetchFrom i 0 = ([], s)) ∧
  (∀ s : State, (fetchInstr s).state = (s.fetchFrom 0 (encode (fetchInstr s).instr).length).2) ∧
  ∀ (s : State) (len : Nat), s.nextPC len = u16 (s.pc.toNat + len - (if s.haltBug then 1 else 0))

/-- R386: a stopped step changes nothing; a halted one clears `halted` when an interrupt is requested; both cost 1 and make no
access. Three clauses are the model's choice and no rule's: Wake comes first in the turn where the input asks for it, so that a
halted step at such a boundary also ends with `stopped` = 0 (log 8), the input of the boundary is used up (log 7), and the cost
is added to the model's own sum (log 6). Nothing else changes. -/
def Obligations.SleepingStep : Prop :=
  ∀ s : State, ¬ Services s →
    (s.wakeIfAsked.stopped = true → step s = .next { s with cycles := s.cycles + 1, inputs := s.inputs.tail }) ∧
    (s.wakeIfAsked.stopped = false → s.halted = true →
      step s = .next { s with stopped := false, halted := !s.irqPending, cycles := s.cycles + 1, inputs := s.inputs.tail })

/-- R407: interrupt entry. With IME not ENABLED it is a contract violation; else the return address is pushed, PC is the
vector, IME is DISABLED, `halted` and `haltBug` are clear, it costs 5, and nothing else changes. -/
def Obligations.InterruptEntry : Prop :=
  ∀ (s : State) (v : Word),
    let ret := if s.haltBug = true ∧ s.params.haltBugIrqReturn = .pcMinus1 then u16 (s.pc.toNat - 1) else s.pc
    (s.ime ≠ .enabled → serviceInterrupt s v = .fault .contractViolation) ∧
    (s.ime = .enabled → ∃ t, serviceInterrupt s v = .next t ∧ Pushed s t ret ∧
      t = { went s v 5 (pushLog s ret) with sp := s.sp - 2, mem := t.mem, ime := .disabled, halted := false })

/-- R406: the step services an interrupt exactly when IME is ENABLED and one is requested, at the vector the collaborator
chose; else it is the core's step. Three clauses are the model's choice and no rule's: Wake comes first where the input asks for
it (log 8), the interrupt is serviced also while `stopped` = 1 and leaves it set (log 9), and the input is used up (log 7), also
by a step that reports InvalidOpcode (log 10). -/
def Obligations.InterruptAtBoundary : Prop :=
  ∀ s : State,
    (Services s → ∃ t, serviceInterrupt s.wakeIfAsked s.input.vector = .next t ∧
      step s = .next { t with inputs := s.inputs.tail }) ∧
    (¬ Services s → step s = endTurn (coreStep s.wakeIfAsked))

/-- R414: Wake clears `stopped` and changes nothing else, and it has no effect when `stopped` is clear. The third clause is the
model's choice and no rule's (log 8): a step at a boundary where Wake is asked for runs as from the state that is not stopped,
whatever the step then does, a report of InvalidOpcode included (log 10). -/
def Obligations.WakeLeavesStopped : Prop :=
  ∀ s : State, s.wake = { s with stopped := false } ∧ (s.stopped = false → s.wake = s) ∧
    (s.input.wake = true → step s = step { s with stopped := false })

/-- R401, R79: a step whose first byte is one of the 11 invalid opcodes reports `InvalidOpcode(b0, false)`, whatever the latch
`haltBug` and IME are, and leaves the state unchanged, with no cost, but for the record of the one opcode read. On a FLAT bus the
step called again reports the same. The last clause says so of a turn of the loop, and what it adds is the model's choice: Wake
first (log 8), and the input used up (log 7, log 10). -/
def Obligations.InvalidByteFaults : Prop :=
  ∀ s : State, s.busValue s.pc ∈ INVALID11 →
    (s.stopped = false → s.halted = false →
      coreStep s = .fault (.invalidOpcode (s.busValue s.pc) false (reported s)) ∧
      (s.params.bus = .flat →
        coreStep (reported s) = .fault (.invalidOpcode (s.busValue s.pc) false (reported (reported s))))) ∧
    (Awake s →
      step s = .fault (.invalidOpcode (s.busValue s.pc) false { reported s with stopped := false, inputs := s.inputs.tail }))

/-- R403, which the spec derives from R400 and R401: a step goes on, or it reports `InvalidOpcode` of the invalid byte it read;
there is no other stop. What the state left holds beside R401 and R79 is the model's choice: Wake first (log 8), and the input
used up (log 7, log 10). -/
def Obligations.OnlyInvalidOpcodeStops : Prop :=
  ∀ s : State, (∃ t, step s = .next t) ∨
    (Awake s ∧ s.busValue s.pc ∈ INVALID11 ∧
      step s = .fault (.invalidOpcode (s.busValue s.pc) false { reported s with stopped := false, inputs := s.inputs.tail }))

/-- R388, which the spec derives from R381 to R387 and R407: IME after every kind of step that goes on. Which kind a step at a
boundary with Wake or with `stopped` = 1 is, is the model's choice (log 8, log 9). -/
def Obligations.ImeStateMachine : Prop :=
  ∀ s t : State, step s = .next t →
    (Services s → t.ime = .disabled) ∧
    (Awake s → t.ime = imeAfter s.ime (s.busValue s.pc)) ∧
    (¬ Services s → ¬ Awake s → t.ime = s.ime)

/-! ### Whole-machine rules -/

/-- R32 and log 2: every step keeps F[3:0] = 0 and the canonical form of memory, from every state that has them. -/
def Obligations.StepKeepsSound : Prop := ∀ s t : State, Sound s → step s = .next t → Sound t

/-- R32 and log 2: the state after reset has F[3:0] = 0 and canonical memory. -/
def Obligations.ResetIsSound : Prop := Sound State.reset

/-- R45: the state at construction for every draw of RESET_REGS and every parameter value, and the profile DMG_POST_BOOT. -/
def Obligations.StateAtConstruction : Prop :=
  (∀ (p : Params) (r : ResetRegs),
    let s := State.constructed p r
    s.ime = .disabled ∧ s.halted = false ∧ s.stopped = false ∧ s.haltBug = false ∧ s.pc = 0x0000 ∧
    s.a = r.a ∧ s.b = r.b ∧ s.c = r.c ∧ s.d = r.d ∧ s.e = r.e ∧ s.h = r.h ∧ s.l = r.l ∧ s.sp = r.sp ∧
    FlagsAre s (r.flags.getLsbD 3) (r.flags.getLsbD 2) (r.flags.getLsbD 1) (r.flags.getLsbD 0)) ∧
  (∃ p r, State.reset = State.constructed p r) ∧
  (State.dmgPostBoot.a = 0x01 ∧ State.dmgPostBoot.f = 0xB0 ∧ State.dmgPostBoot.bc = 0x0013 ∧ State.dmgPostBoot.de = 0x00D8 ∧
    State.dmgPostBoot.hl = 0x014D ∧ State.dmgPostBoot.sp = 0xFFFE ∧ State.dmgPostBoot.pc = 0x0100 ∧
    State.dmgPostBoot.ime = .disabled)

/-- Every instruction but the 11 invalid opcodes completes, from every state: no operand, flag, mode or address stops it
(R403, R412, R71). -/
def Obligations.EveryInstructionCompletes : Prop :=
  ∀ (i : Instr) (s : State), ¬ Invalid i → ∃ t, exec i s = .next t

/-- R114: an instruction that transfers no control advances PC past its own bytes exactly once, across `exec` and across the
whole step, and every prefixed instruction has length 2. That the step is taken after Wake where the input asks for it is the
model's choice (log 8). -/
def Obligations.AdvanceExactlyOnce : Prop :=
  (∀ s t : State, Awake s → step s = .next t → ¬ Transfers (fetchInstr s.wakeIfAsked).instr →
    t.pc = s.nextPC (encode (fetchInstr s.wakeIfAsked).instr).length) ∧
  (∀ (i : Instr) (s t : State), ¬ Transfers i → exec i s = .next t → t.pc = s.nextPC (encode i).length) ∧
  ∀ i : Instr, (encode i).head? = some 0xCB → i.wellFormed = true → (encode i).length = 2

/-- R36, whose table the spec derives from the instruction rules: an instruction outside the table's groups keeps F whole, the
dashes of the table keep their flag, and an instruction that writes F leaves F[3:0] = 0 (R32). -/
def Obligations.FlagWriters : Prop :=
  ∀ (i : Instr) (s t : State), exec i s = .next t →
    (¬ WritesFlags i → t.f = s.f) ∧ (WritesFlags i → t.f &&& 0x0F = 0) ∧ (KeepsZ i → zf t = zf s) ∧
    (KeepsC i → cf t = cf s) ∧ (i = .daa → nf t = nf s)

/-- R33, which the spec derives from the instruction rules: SP is written by no instruction but those the rule lists. -/
def Obligations.StackPointerWriters : Prop :=
  ∀ (i : Instr) (s t : State), ¬ WritesSP i → exec i s = .next t → t.sp = s.sp

/-- R37 to R41: only DI, EI and RETI change IME, only HALT sets `halted` or leaves `haltBug` set, only STOP sets `stopped`, and
no instruction changes a parameter or the collaborator's inputs. -/
def Obligations.ControlStateWriters : Prop :=
  ∀ (i : Instr) (s t : State), exec i s = .next t →
    (t.ime ≠ s.ime → i = .di ∨ i = .ei ∨ i = .reti) ∧ (t.halted ≠ s.halted → i = .halt ∧ t.halted = true) ∧
    (t.haltBug = true → i = .halt) ∧ (t.stopped ≠ s.stopped → (∃ n, i = .stop n) ∧ t.stopped = true) ∧
    t.params = s.params ∧ t.inputs = s.inputs

/-- R72, R73, R79: an instruction makes at most two data accesses, a step at most five accesses in all, and memory after is
memory before with the recorded writes applied in their order, so that nothing else is written. -/
def Obligations.MemoryChangesByLoggedWrites : Prop :=
  (∀ (i : Instr) (s t : State), exec i s = .next t →
    ∃ acc, t.busLog = acc ++ s.busLog ∧ acc.length ≤ 2 ∧ t.mem = applyWrites acc s.mem) ∧
  ∀ s t : State, step s = .next t →
    ∃ acc, t.busLog = acc ++ s.busLog ∧ acc.length ≤ 5 ∧ t.mem = applyWrites acc s.mem

/-- R43, R71: memory is not state of the core. On an ENV bus the storage of the model (log 4) is invisible: with any other
contents the step ends in the same state but for the storage. -/
def Obligations.EnvHidesStorage : Prop :=
  ∀ (s t : State) (n : Nat) (m : Memory), s.params.bus = .env n → step s = .next t →
    ∃ m', step { s with mem := m } = .next { t with mem := m' }

/-- R413, R446: on a FLAT bus nothing a step does depends on the cycles spent or the accesses made before it: it adds a cost
of 1 to 6 and its own accesses, and leaves the same rest, whatever they were. -/
def Obligations.CostsDoNotFeedBack : Prop :=
  ∀ s t : State, s.params.bus = .flat → step s = .next t →
    ∃ (c : Nat) (acc : List BusAccess), 1 ≤ c ∧ c ≤ 6 ∧
      ∀ (k : Nat) (log : List BusAccess),
        step { s with cycles := k, busLog := log } = .next { t with cycles := k + c, busLog := acc ++ log }

/-! ### 8-bit loads -/

/-- R161, R162: LD r,r' and LD r,d8 put the source in the destination register and change nothing else. -/
def Obligations.LoadRegister : Prop :=
  ∀ (s : State) (dst src : Reg8) (n : Byte),
    encode (Instr.ldRR dst src) = [BitVec.ofNat 8 (0b01000000 + 8 * dst.code + src.code)] ∧
    exec (Instr.ldRR dst src) s = .next ((passed s 1 1 []).set8 dst (s.get8 src)) ∧
    encode (Instr.ldRI dst n) = [BitVec.ofNat 8 (0b00000110 + 8 * dst.code), n] ∧
    exec (Instr.ldRI dst n) s = .next ((passed s 2 2 []).set8 dst n)

/-- R163, R164, R165: the load of a register from the byte at HL, by one read, and the stores of a register or an immediate at
HL, by one write: every other byte of memory reads as before. -/
def Obligations.LoadAndStoreAtHL : Prop :=
  ∀ (s : State) (r : Reg8) (n : Byte),
    encode (Instr.ldRM r) = [BitVec.ofNat 8 (0b01000110 + 8 * r.code)] ∧
    exec (Instr.ldRM r) s = .next ((passed s 1 2 [readHL s]).set8 r (s.busValue s.hl)) ∧
    encode (Instr.ldMR r) = [BitVec.ofNat 8 (0b01110000 + r.code)] ∧
    (∃ t, exec (Instr.ldMR r) s = .next t ∧ StoresByte s t s.hl (s.get8 r) ∧
      t = { passed s 1 2 [.write s.hl (s.get8 r)] with mem := t.mem }) ∧
    encode (.ld_mHL_d8 n) = [0b00110110, n] ∧
    ∃ t, exec (.ld_mHL_d8 n) s = .next t ∧ StoresByte s t s.hl n ∧
      t = { passed s 2 3 [.write s.hl n] with mem := t.mem }

/-- R166, R167, R174, R176, R178: the loads of A from (BC), (DE), (a16), (a8) and (C), by one read. -/
def Obligations.LoadAIndirect : Prop :=
  ∀ (s : State) (x : IndA),
    encode (Instr.ldAInd x) = loadBytes x ∧
    exec (Instr.ldAInd x) s =
      .next { passed s (indSize x).1 (indSize x).2 [.read (indAddress s x) (s.busValue (indAddress s x))] with
              a := s.busValue (indAddress s x) }

/-- R168, R169, R175, R177, R179: the stores of A at (BC), (DE), (a16), (a8) and (C), by one write: every other byte of memory
reads as before. -/
def Obligations.StoreAIndirect : Prop :=
  ∀ (s : State) (x : IndA),
    encode (Instr.stAInd x) = storeBytes x ∧
    ∃ t, exec (Instr.stAInd x) s = .next t ∧ StoresByte s t (indAddress s x) s.a ∧
      t = { passed s (indSize x).1 (indSize x).2 [.write (indAddress s x) s.a] with mem := t.mem }

/-- R170 to R173: the access is at the old HL (R77), then HL moves by one, modulo 65536. -/
def Obligations.PostModifiedHL : Prop :=
  ∀ (s : State) (x : PostHL),
    encode (Instr.ldAPost x) = [match x with | .inc => 0x2A | .dec => 0x3A] ∧
    (∃ t, exec (Instr.ldAPost x) s = .next t ∧ t.hl = u16 (s.hl.toNat + postStep x) ∧
      t = { passed s 1 2 [readHL s] with a := s.busValue s.hl, h := t.h, l := t.l }) ∧
    encode (Instr.stAPost x) = [match x with | .inc => 0x22 | .dec => 0x32] ∧
    ∃ t, exec (Instr.stAPost x) s = .next t ∧ t.hl = u16 (s.hl.toNat + postStep x) ∧ StoresByte s t s.hl s.a ∧
      t = { passed s 1 2 [.write s.hl s.a] with mem := t.mem, h := t.h, l := t.l }

/-! ### 16-bit loads and the stack -/

/-- R203, R205: LD rr,d16 and LD SP,HL. -/
def Obligations.LoadPair : Prop :=
  ∀ (s : State) (p : Reg16) (nn : Word),
    encode (Instr.ldRRI p nn) = [BitVec.ofNat 8 (0b00000001 + 16 * p.code), lo nn, hi nn] ∧
    exec (Instr.ldRRI p nn) s = .next ((passed s 3 3 []).set16 p nn) ∧
    encode .ld_SP_HL = [0xF9] ∧ exec .ld_SP_HL s = .next { passed s 1 2 [] with sp := s.hl }

/-- R204: LD (a16),SP writes the low byte at a16, then the high byte at u16(a16 + 1). -/
def Obligations.StoreStackPointer : Prop :=
  ∀ (s : State) (nn : Word),
    encode (.ld_ma16_SP nn) = [0x08, lo nn, hi nn] ∧
    ∃ t, exec (.ld_ma16_SP nn) s = .next t ∧ StoresTwo s t nn (lo s.sp) (u16 (nn.toNat + 1)) (hi s.sp) ∧
      t = { passed s 3 5 [.write (u16 (nn.toNat + 1)) (hi s.sp), .write nn (lo s.sp)] with mem := t.mem }

/-- R206, R264: LD HL,SP+e8 and ADD SP,e8: the signed sum modulo 65536, Z = N = 0, and H and C from the sum of the low byte of
SP and the raw byte e. -/
def Obligations.StackPlusDisplacement : Prop :=
  ∀ (s : State) (e : Byte),
    let h := decide (s.sp.toNat % 16 + e.toNat % 16 > 0xF)
    let c := decide (s.sp.toNat % 256 + e.toNat > 0xFF)
    encode (.ld_HL_SPe8 e) = [0xF8, e] ∧
    (∃ t, exec (.ld_HL_SPe8 e) s = .next t ∧ t.hl = u16 (s.sp.toNat + e.toInt) ∧ FlagsAre t false false h c ∧
      t = { passed s 2 3 [] with h := t.h, l := t.l, f := t.f }) ∧
    encode (.add_SP_e8 e) = [0xE8, e] ∧
    ∃ t, exec (.add_SP_e8 e) s = .next t ∧ t.sp = u16 (s.sp.toNat + e.toInt) ∧ FlagsAre t false false h c ∧
      t = { passed s 2 4 [] with sp := t.sp, f := t.f }

/-- R201, R207: PUSH writes the high byte at SP-1, then the low byte at SP-2; SP moves by 2; AF is stored with F[3:0] = 0. -/
def Obligations.PushPair : Prop :=
  ∀ (s : State) (p : Reg16S),
    encode (Instr.push p) = [BitVec.ofNat 8 (0b11000101 + 16 * p.code)] ∧
    ∃ t, exec (Instr.push p) s = .next t ∧ Pushed s t (s.get16s p) ∧
      t = { passed s 1 4 (pushLog s (s.get16s p)) with sp := u16 (s.sp.toNat - 2), mem := t.mem }

/-- R202, R208, R209: POP reads the low byte at SP, then the high byte at SP+1; SP moves by 2; POP AF loads all four flags and
leaves F[3:0] = 0. -/
def Obligations.PopPair : Prop :=
  ∀ (s : State) (p : Reg16S),
    let u := { passed s 1 3 (popLog s) with sp := u16 (s.sp.toNat + 2) }
    encode (Instr.pop p) = [BitVec.ofNat 8 (0b11000001 + 16 * p.code)] ∧
    exec (Instr.pop p) s = .next (match p with
      | .bc => { u with b := popHigh s, c := popLow s }
      | .de => { u with d := popHigh s, e := popLow s }
      | .hl => { u with h := popHigh s, l := popLow s }
      | .af => { u with a := popHigh s, f := popLow s &&& 0xF0 })

/-- R202, and the CALL-then-RET property that R359's example names: on a FLAT bus a push and then a pop of one pair leave the
pair and SP as they were, for 7 cycles; a RET right after a CALL goes on after the CALL with SP as it was, for 10. -/
def Obligations.StackRoundTrips : Prop :=
  ∀ s : State, s.params.bus = .flat → s.f &&& 0x0F = 0 →
    (∀ p : Reg16S, ∃ t u, exec (Instr.push p) s = .next t ∧ exec (Instr.pop p) t = .next u ∧
      u = { s with pc := t.nextPC 1, haltBug := false, mem := t.mem, cycles := s.cycles + 7, busLog := u.busLog }) ∧
    ∀ nn : Word, ∃ t u, exec (.call_a16 nn) s = .next t ∧ exec .ret t = .next u ∧
      u = { s with pc := s.nextPC 3, haltBug := false, mem := t.mem, cycles := s.cycles + 10, busLog := u.busLog }

/-! ### 8-bit arithmetic and logic -/

/-- R231 to R236: ADD and ADC, for the three sources of R230. -/
def Obligations.AddToA : Prop :=
  ∀ (s : State) (x : AluSrc) (withCarry : Bool),
    let op : AluOp := if withCarry then .adc else .add
    let v := (srcValue s x).toNat
    let cin := bitNat (withCarry && cf s)
    encode (Instr.alu op x) = aluBytes op x ∧
    ∃ t, exec (Instr.alu op x) s = .next t ∧ t = { aluPassed s x with a := t.a, f := t.f } ∧
      t.a = u8 (s.a.toNat + v + cin) ∧
      FlagsAre t (decide (t.a = 0)) false (decide (s.a.toNat % 16 + v % 16 + cin > 0xF)) (decide (s.a.toNat + v + cin > 0xFF))

/-- R237 to R245: SUB, SBC and CP, for the three sources of R230. CP writes the flags only. -/
def Obligations.SubtractFromA : Prop :=
  ∀ (s : State) (x : AluSrc) (op : AluOp), op = .sub ∨ op = .sbc ∨ op = .cp →
    let v := (srcValue s x).toNat
    let cin := bitNat (op = .sbc && cf s)
    let r := u8 (s.a.toNat - v - cin)
    encode (Instr.alu op x) = aluBytes op x ∧
    ∃ t, exec (Instr.alu op x) s = .next t ∧ t = { aluPassed s x with a := t.a, f := t.f } ∧
      t.a = (if op = .cp then s.a else r) ∧
      FlagsAre t (decide (r = 0)) true (decide (v % 16 + cin > s.a.toNat % 16)) (decide (v + cin > s.a.toNat))

/-- R281 to R289: AND, XOR and OR, for the three sources of R230. H is 1 for AND and 0 for the others; N = C = 0. -/
def Obligations.LogicOnA : Prop :=
  ∀ (s : State) (x : AluSrc) (op : AluOp), op = .and ∨ op = .xor ∨ op = .or →
    encode (Instr.alu op x) = aluBytes op x ∧
    ∃ t, exec (Instr.alu op x) s = .next t ∧ t = { aluPassed s x with a := t.a, f := t.f } ∧
      (∀ k, t.a.getLsbD k =
        if op = .and then s.a.getLsbD k && (srcValue s x).getLsbD k
        else if op = .xor then s.a.getLsbD k ^^ (srcValue s x).getLsbD k
        else s.a.getLsbD k || (srcValue s x).getLsbD k) ∧
      FlagsAre t (decide (t.a = 0)) false (decide (op = .and)) false

/-- R251, R252, R290: SCF, CCF and CPL. That CPL keeps Z and C the spec derives from the source's row of flags touched. -/
def Obligations.CarryAndComplement : Prop :=
  ∀ s : State,
    encode .scf = [0x37] ∧ encode .ccf = [0x3F] ∧ encode .cpl = [0x2F] ∧
    (∃ t, exec .scf s = .next t ∧ t = { passed s 1 1 [] with f := t.f } ∧ FlagsAre t (zf s) false false true) ∧
    (∃ t, exec .ccf s = .next t ∧ t = { passed s 1 1 [] with f := t.f } ∧ FlagsAre t (zf s) false false (!cf s)) ∧
    ∃ t, exec .cpl s = .next t ∧ t = { passed s 1 1 [] with a := t.a, f := t.f } ∧
      t.a.toNat = 255 - s.a.toNat ∧ FlagsAre t (zf s) true true (cf s)

/-- R246 to R249: INC and DEC of a register or of the byte at HL, which is read and then written. C is unaffected. -/
def Obligations.IncrementAndDecrement : Prop :=
  ∀ (s : State) (x : Loc8),
    let v := (locValue s x).toNat
    let u := passed s 1 (locCost 1 3 x) (locReads s x)
    encode (Instr.inc8 x) = [BitVec.ofNat 8 (0b00000100 + 8 * x.code)] ∧
    (∃ t, exec (Instr.inc8 x) s = .next t ∧ Puts u t x (u8 (v + 1)) ∧
      FlagsAre t (decide (u8 (v + 1) = 0)) false (decide (v % 16 = 0xF)) (cf s)) ∧
    encode (Instr.dec8 x) = [BitVec.ofNat 8 (0b00000101 + 8 * x.code)] ∧
    ∃ t, exec (Instr.dec8 x) s = .next t ∧ Puts u t x (u8 (v - 1)) ∧
      FlagsAre t (decide (u8 (v - 1) = 0)) true (decide (v % 16 = 0)) (cf s)

/-- R250: DAA. -/
def Obligations.DecimalAdjust : Prop :=
  ∀ s : State,
    let r := daaValue s.a.toNat (nf s) (hf s) (cf s)
    encode .daa = [0x27] ∧
    ∃ t, exec .daa s = .next t ∧ t = { passed s 1 1 [] with a := t.a, f := t.f } ∧ t.a = u8 r.1 ∧
      FlagsAre t (decide (u8 r.1 = 0)) (nf s) false r.2

/-! ### 16-bit arithmetic -/

/-- R261, R262, R263: ADD HL,rr with half-carry out of bit 11 and Z unaffected; INC rr and DEC rr, with no flag. -/
def Obligations.PairArithmetic : Prop :=
  ∀ (s : State) (p : Reg16),
    let w := (s.get16 p).toNat
    encode (Instr.addHL p) = [BitVec.ofNat 8 (0b00001001 + 16 * p.code)] ∧
    (∃ t, exec (Instr.addHL p) s = .next t ∧ t = { passed s 1 2 [] with h := t.h, l := t.l, f := t.f } ∧
      t.hl = u16 (s.hl.toNat + w) ∧
      FlagsAre t (zf s) false (decide (s.hl.toNat % 4096 + w % 4096 > 0xFFF)) (decide (s.hl.toNat + w > 0xFFFF))) ∧
    encode (Instr.inc16 p) = [BitVec.ofNat 8 (0b00000011 + 16 * p.code)] ∧
    exec (Instr.inc16 p) s = .next ((passed s 1 2 []).set16 p (u16 (w + 1))) ∧
    encode (Instr.dec16 p) = [BitVec.ofNat 8 (0b00001011 + 16 * p.code)] ∧
    exec (Instr.dec16 p) s = .next ((passed s 1 2 []).set16 p (u16 (w - 1)))

/-! ### Bits, rotates and shifts -/

/-- R301, R302: BIT sets Z to the complement of the bit, N = 0, H = 1, leaves C, and writes no operand. -/
def Obligations.TestBit : Prop :=
  ∀ (s : State) (b : Sel3) (x : Loc8),
    encode (Instr.bit b x) = [0xCB, BitVec.ofNat 8 (0b01000000 + 8 * b.toNat + x.code)] ∧
    ∃ t, exec (Instr.bit b x) s = .next t ∧ t = { passed s 2 (locCost 2 3 x) (locReads s x) with f := t.f } ∧
      FlagsAre t (!(locValue s x).getLsbD b.toNat) false true (cf s)

/-- R303 to R306: RES and SET change the named bit only, and no flag. -/
def Obligations.ResetAndSetBit : Prop :=
  ∀ (s : State) (b : Sel3) (x : Loc8),
    let u := passed s 2 (locCost 2 4 x) (locReads s x)
    encode (Instr.res b x) = [0xCB, BitVec.ofNat 8 (0b10000000 + 8 * b.toNat + x.code)] ∧
    (∃ t v, exec (Instr.res b x) s = .next t ∧ Puts u t x v ∧ t.f = s.f ∧
      ∀ k, v.getLsbD k = if k = b.toNat then false else (locValue s x).getLsbD k) ∧
    encode (Instr.set b x) = [0xCB, BitVec.ofNat 8 (0b11000000 + 8 * b.toNat + x.code)] ∧
    ∃ t v, exec (Instr.set b x) s = .next t ∧ Puts u t x v ∧ t.f = s.f ∧
      ∀ k, v.getLsbD k = if k = b.toNat then true else (locValue s x).getLsbD k

/-- R321 to R324: RLCA, RRCA, RLA and RRA; Z is kept, or cleared where the parameter ACC_ROT_Z says so (R320). -/
def Obligations.RotateAccumulator : Prop :=
  ∀ s : State,
    let z := accZ s
    let v := s.a.toNat
    encode .rlca = [0x07] ∧ encode .rrca = [0x0F] ∧ encode .rla = [0x17] ∧ encode .rra = [0x1F] ∧
    (∃ t, exec .rlca s = .next t ∧ t = { passed s 1 1 [] with a := t.a, f := t.f } ∧
      t.a.toNat = leftValue .rlc v (cf s) ∧ FlagsAre t z false false (decide (v / 128 = 1))) ∧
    (∃ t, exec .rrca s = .next t ∧ t = { passed s 1 1 [] with a := t.a, f := t.f } ∧
      t.a.toNat = rightValue .rrc v (cf s) ∧ FlagsAre t z false false (decide (v % 2 = 1))) ∧
    (∃ t, exec .rla s = .next t ∧ t = { passed s 1 1 [] with a := t.a, f := t.f } ∧
      t.a.toNat = leftValue .rl v (cf s) ∧ FlagsAre t z false false (decide (v / 128 = 1))) ∧
    ∃ t, exec .rra s = .next t ∧ t = { passed s 1 1 [] with a := t.a, f := t.f } ∧
      t.a.toNat = rightValue .rr v (cf s) ∧ FlagsAre t z false false (decide (v % 2 = 1))

/-- R325, R326, R329, R330, R333, R334, R337, R338: RLC, RL, SLA and SWAP of a register or of the byte at HL, which is read and
then written. C is the bit shifted out, and 0 for SWAP. -/
def Obligations.RotateLeft : Prop :=
  ∀ (s : State) (op : RotOp) (x : Loc8), op = .rlc ∨ op = .rl ∨ op = .sla ∨ op = .swap →
    let v := (locValue s x).toNat
    let r := BitVec.ofNat 8 (leftValue op v (cf s))
    encode (Instr.rot op x) = [0xCB, BitVec.ofNat 8 (8 * op.code + x.code)] ∧
    ∃ t, exec (Instr.rot op x) s = .next t ∧ Puts (passed s 2 (locCost 2 4 x) (locReads s x)) t x r ∧
      FlagsAre t (decide (r = 0)) false false (decide (v / 128 = 1 ∧ op ≠ .swap))

/-- R327, R328, R331, R332, R335, R336, R339, R340: RRC, RR, SRA and SRL of a register or of the byte at HL, which is read and
then written. C is the bit shifted out. -/
def Obligations.RotateRight : Prop :=
  ∀ (s : State) (op : RotOp) (x : Loc8), op = .rrc ∨ op = .rr ∨ op = .sra ∨ op = .srl →
    let v := (locValue s x).toNat
    let r := BitVec.ofNat 8 (rightValue op v (cf s))
    encode (Instr.rot op x) = [0xCB, BitVec.ofNat 8 (8 * op.code + x.code)] ∧
    ∃ t, exec (Instr.rot op x) s = .next t ∧ Puts (passed s 2 (locCost 2 4 x) (locReads s x)) t x r ∧
      FlagsAre t (decide (r = 0)) false false (decide (v % 2 = 1))

/-! ### Control flow -/

/-- R354 to R358: the jumps, each writing PC only; a conditional one costs less when its condition is false. -/
def Obligations.Jumps : Prop :=
  ∀ (s : State) (cc : Cond) (nn : Word) (e : Byte),
    let near := u16 ((s.nextPC 2).toNat + e.toInt)
    encode (.jp_a16 nn) = [0xC3, lo nn, hi nn] ∧ exec (.jp_a16 nn) s = .next (went s nn 4 []) ∧
    encode (Instr.jpCC cc nn) = [BitVec.ofNat 8 (0b11000010 + 8 * cc.code), lo nn, hi nn] ∧
    exec (Instr.jpCC cc nn) s = .next (if holds s cc then went s nn 4 [] else passed s 3 3 []) ∧
    encode .jp_HL = [0xE9] ∧ exec .jp_HL s = .next (went s s.hl 1 []) ∧
    encode (.jr_e8 e) = [0x18, e] ∧ exec (.jr_e8 e) s = .next (went s near 3 []) ∧
    encode (Instr.jrCC cc e) = [BitVec.ofNat 8 (0b00100000 + 8 * cc.code), e] ∧
    exec (Instr.jrCC cc e) s = .next (if holds s cc then went s near 3 [] else passed s 2 2 [])

/-- R359, R360, R363: CALL, CALL cc and RST push the address after the instruction and go on at the target. A call that is
not taken leaves SP and memory unchanged. -/
def Obligations.CallsAndRestarts : Prop :=
  ∀ (s : State) (cc : Cond) (nn : Word) (y : Sel3),
    encode (.call_a16 nn) = [0xCD, lo nn, hi nn] ∧
    (∃ t, exec (.call_a16 nn) s = .next t ∧ Pushed s t (s.nextPC 3) ∧
      t = { went s nn 6 (pushLog s (s.nextPC 3)) with sp := u16 (s.sp.toNat - 2), mem := t.mem }) ∧
    encode (Instr.callCC cc nn) = [BitVec.ofNat 8 (0b11000100 + 8 * cc.code), lo nn, hi nn] ∧
    exec (Instr.callCC cc nn) s = (if holds s cc then exec (.call_a16 nn) s else .next (passed s 3 3 [])) ∧
    encode (Instr.rst y) = [BitVec.ofNat 8 (0b11000111 + 8 * y.toNat)] ∧
    ∃ t, exec (Instr.rst y) s = .next t ∧ Pushed s t (s.nextPC 1) ∧
      t = { went s (u16 (8 * y.toNat)) 4 (pushLog s (s.nextPC 1)) with sp := u16 (s.sp.toNat - 2), mem := t.mem }

/-- R361, R362, R383: RET, RET cc and RETI pop PC; RETI sets IME to ENABLED at once. A return that is not taken reads nothing
and leaves SP unchanged. -/
def Obligations.Returns : Prop :=
  ∀ (s : State) (cc : Cond),
    let sp := u16 (s.sp.toNat + 2)
    encode .ret = [0xC9] ∧ exec .ret s = .next { went s (popWord s) 4 (popLog s) with sp := sp } ∧
    encode (Instr.retCC cc) = [BitVec.ofNat 8 (0b11000000 + 8 * cc.code)] ∧
    exec (Instr.retCC cc) s =
      .next (if holds s cc then { went s (popWord s) 5 (popLog s) with sp := sp } else passed s 1 2 []) ∧
    encode .reti = [0xD9] ∧ exec .reti s = .next { went s (popWord s) 4 (popLog s) with sp := sp, ime := .enabled }

/-- R380, R381, R382, R384, R385: NOP, DI, EI, HALT and STOP. -/
def Obligations.ControlInstructions : Prop :=
  ∀ (s : State) (n : Byte),
    let u := passed s 1 1 []
    encode .nop = [0x00] ∧ exec .nop s = .next u ∧
    encode .di = [0xF3] ∧ exec .di s = .next { u with ime := .disabled } ∧
    encode .ei = [0xFB] ∧ exec .ei s = .next { u with ime := if s.ime = .enabled then .enabled else .pending } ∧
    encode .halt = [0x76] ∧
    exec .halt s = .next { u with halted := s.halted || !s.irqPending,
                                  haltBug := s.irqPending && decide (s.ime ≠ .enabled) } ∧
    encode (.stop n) = [0x10, n] ∧ exec (.stop n) s = .next { passed s 2 1 [] with stopped := true }
end

