-- ==== Sys2Proof/Laws/Families.lean ====
section
/-! SUPPORT. The instructions by family: what `exec` does with every instruction of a family, and a case principle over the 27
families and the 21 single instructions, so that a proof over all instructions has 48 cases. -/

namespace Sys2Proof

open Sys2Proof.Machine

/-- The address of an indirect operand of A. -/
def IndA.addr (x : IndA) (s : State) : Word :=
  match x with
  | .mBC => s.bc | .mDE => s.de | .mC => highPage s.c | .ma8 n => highPage n | .ma16 nn => nn

/-- The length of the load or store of A. -/
def IndA.length : IndA → Nat
  | .mBC => 1 | .mDE => 1 | .mC => 1 | .ma8 _ => 2 | .ma16 _ => 3

/-- The cost of the load or store of A. -/
def IndA.cost : IndA → Nat
  | .mBC => 2 | .mDE => 2 | .mC => 2 | .ma8 _ => 3 | .ma16 _ => 4

/-- What HL moves by. -/
def PostHL.delta : PostHL → Word
  | .inc => 1 | .dec => 0xFFFF

/-- The rotate of an accumulator form. -/
def AccRot.toRot : AccRot → RotOp
  | .rlca => .rlc | .rrca => .rrc | .rla => .rl | .rra => .rr

end Sys2Proof

namespace Sys2Proof.Machine

theorem exec_ldRR (dst r : Reg8) (s : State) : exec (Instr.ldRR dst r) s = ldRegReg dst r s := by
  cases dst <;> cases r <;> rfl

theorem exec_ldRI (dst : Reg8) (n : Byte) (s : State) : exec (Instr.ldRI dst n) s = ldRegImm dst n s := by
  cases dst <;> rfl

theorem exec_ldRM (dst : Reg8) (s : State) : exec (Instr.ldRM dst) s = ldRegMem dst s := by
  cases dst <;> rfl

theorem exec_ldMR (r : Reg8) (s : State) : exec (Instr.ldMR r) s = ldMemReg r s := by
  cases r <;> rfl

theorem exec_ldAInd (x : IndA) (s : State) : exec (Instr.ldAInd x) s = loadA (x.addr s) x.length x.cost s := by
  cases x <;> rfl

theorem exec_stAInd (x : IndA) (s : State) : exec (Instr.stAInd x) s = storeA (x.addr s) x.length x.cost s := by
  cases x <;> rfl

theorem exec_ldAPost (x : PostHL) (s : State) : exec (Instr.ldAPost x) s = loadAPost x.delta s := by
  cases x <;> rfl

theorem exec_stAPost (x : PostHL) (s : State) : exec (Instr.stAPost x) s = storeAPost x.delta s := by
  cases x <;> rfl

theorem exec_ldRRI (p : Reg16) (nn : Word) (s : State) : exec (Instr.ldRRI p nn) s = ldPairImm p nn s := by
  cases p <;> rfl

theorem exec_push (p : Reg16S) (s : State) : exec (Instr.push p) s = pushPair p s := by
  cases p <;> rfl

theorem exec_pop (p : Reg16S) (s : State) : exec (Instr.pop p) s = popPair p s := by
  cases p <;> rfl

theorem exec_alu (op : AluOp) (x : AluSrc) (s : State) : exec (Instr.alu op x) s = aluA op x s := by
  cases op <;> (rcases x with r | _ | n) <;> (first | cases r | skip) <;> rfl

theorem exec_inc8 (x : Loc8) (s : State) : exec (Instr.inc8 x) s = incLoc x s := by
  (rcases x with r | _) <;> (first | cases r | skip) <;> rfl

theorem exec_dec8 (x : Loc8) (s : State) : exec (Instr.dec8 x) s = decLoc x s := by
  (rcases x with r | _) <;> (first | cases r | skip) <;> rfl

theorem exec_inc16 (p : Reg16) (s : State) : exec (Instr.inc16 p) s = incPair p s := by
  cases p <;> rfl

theorem exec_dec16 (p : Reg16) (s : State) : exec (Instr.dec16 p) s = decPair p s := by
  cases p <;> rfl

theorem exec_addHL (p : Reg16) (s : State) : exec (Instr.addHL p) s = addHLPair p s := by
  cases p <;> rfl

theorem exec_rotA (x : AccRot) (s : State) : exec (Instr.rotA x) s = rotateA x.toRot s := by
  cases x <;> rfl

theorem exec_rot (op : RotOp) (x : Loc8) (s : State) : exec (Instr.rot op x) s = rotateLoc op x s := by
  cases op <;> (rcases x with r | _) <;> (first | cases r | skip) <;> rfl

theorem exec_bit (b : Sel3) (x : Loc8) (s : State) : exec (Instr.bit b x) s = testBit b x s := by
  cases b <;> (rcases x with r | _) <;> (first | cases r | skip) <;> rfl

theorem exec_res (b : Sel3) (x : Loc8) (s : State) : exec (Instr.res b x) s = resetBit b x s := by
  cases b <;> (rcases x with r | _) <;> (first | cases r | skip) <;> rfl

theorem exec_set (b : Sel3) (x : Loc8) (s : State) : exec (Instr.set b x) s = setBit b x s := by
  cases b <;> (rcases x with r | _) <;> (first | cases r | skip) <;> rfl

theorem exec_jpCC (cc : Cond) (nn : Word) (s : State) : exec (Instr.jpCC cc nn) s = jumpIf cc nn s := by
  cases cc <;> rfl

theorem exec_jrCC (cc : Cond) (e : Byte) (s : State) : exec (Instr.jrCC cc e) s = jumpRelIf cc e s := by
  cases cc <;> rfl

theorem exec_callCC (cc : Cond) (nn : Word) (s : State) : exec (Instr.callCC cc nn) s = callIf cc nn s := by
  cases cc <;> rfl

theorem exec_retCC (cc : Cond) (s : State) : exec (Instr.retCC cc) s = returnIf cc s := by
  cases cc <;> rfl

theorem exec_rst (y : Sel3) (s : State) : exec (Instr.rst y) s = restart y s := by
  cases y <;> rfl

/-- The case principle: every instruction belongs to a family or is one of the single ones. -/
theorem instr_cases {P : Instr → Prop}
    (h_ldRR : ∀ (dst r : Reg8), P (Instr.ldRR dst r))
    (h_ldRI : ∀ (dst : Reg8) (n : Byte), P (Instr.ldRI dst n))
    (h_ldRM : ∀ (dst : Reg8), P (Instr.ldRM dst))
    (h_ldMR : ∀ (r : Reg8), P (Instr.ldMR r))
    (h_ldAInd : ∀ (x : IndA), P (Instr.ldAInd x))
    (h_stAInd : ∀ (x : IndA), P (Instr.stAInd x))
    (h_ldAPost : ∀ (x : PostHL), P (Instr.ldAPost x))
    (h_stAPost : ∀ (x : PostHL), P (Instr.stAPost x))
    (h_ldRRI : ∀ (p : Reg16) (nn : Word), P (Instr.ldRRI p nn))
    (h_push : ∀ (p : Reg16S), P (Instr.push p))
    (h_pop : ∀ (p : Reg16S), P (Instr.pop p))
    (h_alu : ∀ (op : AluOp) (x : AluSrc), P (Instr.alu op x))
    (h_inc8 : ∀ (x : Loc8), P (Instr.inc8 x))
    (h_dec8 : ∀ (x : Loc8), P (Instr.dec8 x))
    (h_inc16 : ∀ (p : Reg16), P (Instr.inc16 p))
    (h_dec16 : ∀ (p : Reg16), P (Instr.dec16 p))
    (h_addHL : ∀ (p : Reg16), P (Instr.addHL p))
    (h_rotA : ∀ (x : AccRot), P (Instr.rotA x))
    (h_rot : ∀ (op : RotOp) (x : Loc8), P (Instr.rot op x))
    (h_bit : ∀ (b : Sel3) (x : Loc8), P (Instr.bit b x))
    (h_res : ∀ (b : Sel3) (x : Loc8), P (Instr.res b x))
    (h_set : ∀ (b : Sel3) (x : Loc8), P (Instr.set b x))
    (h_jpCC : ∀ (cc : Cond) (nn : Word), P (Instr.jpCC cc nn))
    (h_jrCC : ∀ (cc : Cond) (e : Byte), P (Instr.jrCC cc e))
    (h_callCC : ∀ (cc : Cond) (nn : Word), P (Instr.callCC cc nn))
    (h_retCC : ∀ (cc : Cond), P (Instr.retCC cc))
    (h_rst : ∀ (y : Sel3), P (Instr.rst y))
    (h_nop : P .nop)
    (h_ld_ma16_SP : ∀ nn : Word, P (.ld_ma16_SP nn))
    (h_stop : ∀ n : Byte, P (.stop n))
    (h_jr_e8 : ∀ e : Byte, P (.jr_e8 e))
    (h_daa : P .daa)
    (h_cpl : P .cpl)
    (h_ld_mHL_d8 : ∀ n : Byte, P (.ld_mHL_d8 n))
    (h_scf : P .scf)
    (h_ccf : P .ccf)
    (h_halt : P .halt)
    (h_jp_a16 : ∀ nn : Word, P (.jp_a16 nn))
    (h_ret : P .ret)
    (h_call_a16 : ∀ nn : Word, P (.call_a16 nn))
    (h_invalid : ∀ op : Byte, P (.invalid op))
    (h_reti : P .reti)
    (h_add_SP_e8 : ∀ e : Byte, P (.add_SP_e8 e))
    (h_jp_HL : P .jp_HL)
    (h_di : P .di)
    (h_ld_HL_SPe8 : ∀ e : Byte, P (.ld_HL_SPe8 e))
    (h_ld_SP_HL : P .ld_SP_HL)
    (h_ei : P .ei)
    : ∀ i, P i
  | .nop => h_nop
  | .ld_BC_d16 nn => h_ldRRI .bc nn
  | .ld_mBC_A => h_stAInd .mBC
  | .inc_BC => h_inc16 .bc
  | .inc_B => h_inc8 (.reg .b)
  | .dec_B => h_dec8 (.reg .b)
  | .ld_B_d8 n => h_ldRI .b n
  | .rlca => h_rotA .rlca
  | .ld_ma16_SP nn => h_ld_ma16_SP nn
  | .add_HL_BC => h_addHL .bc
  | .ld_A_mBC => h_ldAInd .mBC
  | .dec_BC => h_dec16 .bc
  | .inc_C => h_inc8 (.reg .c)
  | .dec_C => h_dec8 (.reg .c)
  | .ld_C_d8 n => h_ldRI .c n
  | .rrca => h_rotA .rrca
  | .stop n => h_stop n
  | .ld_DE_d16 nn => h_ldRRI .de nn
  | .ld_mDE_A => h_stAInd .mDE
  | .inc_DE => h_inc16 .de
  | .inc_D => h_inc8 (.reg .d)
  | .dec_D => h_dec8 (.reg .d)
  | .ld_D_d8 n => h_ldRI .d n
  | .rla => h_rotA .rla
  | .jr_e8 e => h_jr_e8 e
  | .add_HL_DE => h_addHL .de
  | .ld_A_mDE => h_ldAInd .mDE
  | .dec_DE => h_dec16 .de
  | .inc_E => h_inc8 (.reg .e)
  | .dec_E => h_dec8 (.reg .e)
  | .ld_E_d8 n => h_ldRI .e n
  | .rra => h_rotA .rra
  | .jr_NZ_e8 e => h_jrCC .nz e
  | .ld_HL_d16 nn => h_ldRRI .hl nn
  | .ld_mHLinc_A => h_stAPost .inc
  | .inc_HL => h_inc16 .hl
  | .inc_H => h_inc8 (.reg .h)
  | .dec_H => h_dec8 (.reg .h)
  | .ld_H_d8 n => h_ldRI .h n
  | .daa => h_daa
  | .jr_Z_e8 e => h_jrCC .z e
  | .add_HL_HL => h_addHL .hl
  | .ld_A_mHLinc => h_ldAPost .inc
  | .dec_HL => h_dec16 .hl
  | .inc_L => h_inc8 (.reg .l)
  | .dec_L => h_dec8 (.reg .l)
  | .ld_L_d8 n => h_ldRI .l n
  | .cpl => h_cpl
  | .jr_NC_e8 e => h_jrCC .nc e
  | .ld_SP_d16 nn => h_ldRRI .sp nn
  | .ld_mHLdec_A => h_stAPost .dec
  | .inc_SP => h_inc16 .sp
  | .inc_mHL => h_inc8 .mHL
  | .dec_mHL => h_dec8 .mHL
  | .ld_mHL_d8 n => h_ld_mHL_d8 n
  | .scf => h_scf
  | .jr_C_e8 e => h_jrCC .c e
  | .add_HL_SP => h_addHL .sp
  | .ld_A_mHLdec => h_ldAPost .dec
  | .dec_SP => h_dec16 .sp
  | .inc_A => h_inc8 (.reg .a)
  | .dec_A => h_dec8 (.reg .a)
  | .ld_A_d8 n => h_ldRI .a n
  | .ccf => h_ccf
  | .ld_B_B => h_ldRR .b .b
  | .ld_B_C => h_ldRR .b .c
  | .ld_B_D => h_ldRR .b .d
  | .ld_B_E => h_ldRR .b .e
  | .ld_B_H => h_ldRR .b .h
  | .ld_B_L => h_ldRR .b .l
  | .ld_B_mHL => h_ldRM .b
  | .ld_B_A => h_ldRR .b .a
  | .ld_C_B => h_ldRR .c .b
  | .ld_C_C => h_ldRR .c .c
  | .ld_C_D => h_ldRR .c .d
  | .ld_C_E => h_ldRR .c .e
  | .ld_C_H => h_ldRR .c .h
  | .ld_C_L => h_ldRR .c .l
  | .ld_C_mHL => h_ldRM .c
  | .ld_C_A => h_ldRR .c .a
  | .ld_D_B => h_ldRR .d .b
  | .ld_D_C => h_ldRR .d .c
  | .ld_D_D => h_ldRR .d .d
  | .ld_D_E => h_ldRR .d .e
  | .ld_D_H => h_ldRR .d .h
  | .ld_D_L => h_ldRR .d .l
  | .ld_D_mHL => h_ldRM .d
  | .ld_D_A => h_ldRR .d .a
  | .ld_E_B => h_ldRR .e .b
  | .ld_E_C => h_ldRR .e .c
  | .ld_E_D => h_ldRR .e .d
  | .ld_E_E => h_ldRR .e .e
  | .ld_E_H => h_ldRR .e .h
  | .ld_E_L => h_ldRR .e .l
  | .ld_E_mHL => h_ldRM .e
  | .ld_E_A => h_ldRR .e .a
  | .ld_H_B => h_ldRR .h .b
  | .ld_H_C => h_ldRR .h .c
  | .ld_H_D => h_ldRR .h .d
  | .ld_H_E => h_ldRR .h .e
  | .ld_H_H => h_ldRR .h .h
  | .ld_H_L => h_ldRR .h .l
  | .ld_H_mHL => h_ldRM .h
  | .ld_H_A => h_ldRR .h .a
  | .ld_L_B => h_ldRR .l .b
  | .ld_L_C => h_ldRR .l .c
  | .ld_L_D => h_ldRR .l .d
  | .ld_L_E => h_ldRR .l .e
  | .ld_L_H => h_ldRR .l .h
  | .ld_L_L => h_ldRR .l .l
  | .ld_L_mHL => h_ldRM .l
  | .ld_L_A => h_ldRR .l .a
  | .ld_mHL_B => h_ldMR .b
  | .ld_mHL_C => h_ldMR .c
  | .ld_mHL_D => h_ldMR .d
  | .ld_mHL_E => h_ldMR .e
  | .ld_mHL_H => h_ldMR .h
  | .ld_mHL_L => h_ldMR .l
  | .halt => h_halt
  | .ld_mHL_A => h_ldMR .a
  | .ld_A_B => h_ldRR .a .b
  | .ld_A_C => h_ldRR .a .c
  | .ld_A_D => h_ldRR .a .d
  | .ld_A_E => h_ldRR .a .e
  | .ld_A_H => h_ldRR .a .h
  | .ld_A_L => h_ldRR .a .l
  | .ld_A_mHL => h_ldRM .a
  | .ld_A_A => h_ldRR .a .a
  | .add_A_B => h_alu .add (.reg .b)
  | .add_A_C => h_alu .add (.reg .c)
  | .add_A_D => h_alu .add (.reg .d)
  | .add_A_E => h_alu .add (.reg .e)
  | .add_A_H => h_alu .add (.reg .h)
  | .add_A_L => h_alu .add (.reg .l)
  | .add_A_mHL => h_alu .add .mHL
  | .add_A_A => h_alu .add (.reg .a)
  | .adc_A_B => h_alu .adc (.reg .b)
  | .adc_A_C => h_alu .adc (.reg .c)
  | .adc_A_D => h_alu .adc (.reg .d)
  | .adc_A_E => h_alu .adc (.reg .e)
  | .adc_A_H => h_alu .adc (.reg .h)
  | .adc_A_L => h_alu .adc (.reg .l)
  | .adc_A_mHL => h_alu .adc .mHL
  | .adc_A_A => h_alu .adc (.reg .a)
  | .sub_B => h_alu .sub (.reg .b)
  | .sub_C => h_alu .sub (.reg .c)
  | .sub_D => h_alu .sub (.reg .d)
  | .sub_E => h_alu .sub (.reg .e)
  | .sub_H => h_alu .sub (.reg .h)
  | .sub_L => h_alu .sub (.reg .l)
  | .sub_mHL => h_alu .sub .mHL
  | .sub_A => h_alu .sub (.reg .a)
  | .sbc_A_B => h_alu .sbc (.reg .b)
  | .sbc_A_C => h_alu .sbc (.reg .c)
  | .sbc_A_D => h_alu .sbc (.reg .d)
  | .sbc_A_E => h_alu .sbc (.reg .e)
  | .sbc_A_H => h_alu .sbc (.reg .h)
  | .sbc_A_L => h_alu .sbc (.reg .l)
  | .sbc_A_mHL => h_alu .sbc .mHL
  | .sbc_A_A => h_alu .sbc (.reg .a)
  | .and_B => h_alu .and (.reg .b)
  | .and_C => h_alu .and (.reg .c)
  | .and_D => h_alu .and (.reg .d)
  | .and_E => h_alu .and (.reg .e)
  | .and_H => h_alu .and (.reg .h)
  | .and_L => h_alu .and (.reg .l)
  | .and_mHL => h_alu .and .mHL
  | .and_A => h_alu .and (.reg .a)
  | .xor_B => h_alu .xor (.reg .b)
  | .xor_C => h_alu .xor (.reg .c)
  | .xor_D => h_alu .xor (.reg .d)
  | .xor_E => h_alu .xor (.reg .e)
  | .xor_H => h_alu .xor (.reg .h)
  | .xor_L => h_alu .xor (.reg .l)
  | .xor_mHL => h_alu .xor .mHL
  | .xor_A => h_alu .xor (.reg .a)
  | .or_B => h_alu .or (.reg .b)
  | .or_C => h_alu .or (.reg .c)
  | .or_D => h_alu .or (.reg .d)
  | .or_E => h_alu .or (.reg .e)
  | .or_H => h_alu .or (.reg .h)
  | .or_L => h_alu .or (.reg .l)
  | .or_mHL => h_alu .or .mHL
  | .or_A => h_alu .or (.reg .a)
  | .cp_B => h_alu .cp (.reg .b)
  | .cp_C => h_alu .cp (.reg .c)
  | .cp_D => h_alu .cp (.reg .d)
  | .cp_E => h_alu .cp (.reg .e)
  | .cp_H => h_alu .cp (.reg .h)
  | .cp_L => h_alu .cp (.reg .l)
  | .cp_mHL => h_alu .cp .mHL
  | .cp_A => h_alu .cp (.reg .a)
  | .ret_NZ => h_retCC .nz
  | .pop_BC => h_pop .bc
  | .jp_NZ_a16 nn => h_jpCC .nz nn
  | .jp_a16 nn => h_jp_a16 nn
  | .call_NZ_a16 nn => h_callCC .nz nn
  | .push_BC => h_push .bc
  | .add_A_d8 n => h_alu .add (.d8 n)
  | .rst_00 => h_rst .n0
  | .ret_Z => h_retCC .z
  | .ret => h_ret
  | .jp_Z_a16 nn => h_jpCC .z nn
  | .call_Z_a16 nn => h_callCC .z nn
  | .call_a16 nn => h_call_a16 nn
  | .adc_A_d8 n => h_alu .adc (.d8 n)
  | .rst_08 => h_rst .n1
  | .ret_NC => h_retCC .nc
  | .pop_DE => h_pop .de
  | .jp_NC_a16 nn => h_jpCC .nc nn
  | .invalid op => h_invalid op
  | .call_NC_a16 nn => h_callCC .nc nn
  | .push_DE => h_push .de
  | .sub_d8 n => h_alu .sub (.d8 n)
  | .rst_10 => h_rst .n2
  | .ret_C => h_retCC .c
  | .reti => h_reti
  | .jp_C_a16 nn => h_jpCC .c nn
  | .call_C_a16 nn => h_callCC .c nn
  | .sbc_A_d8 n => h_alu .sbc (.d8 n)
  | .rst_18 => h_rst .n3
  | .ldh_ma8_A n => h_stAInd (.ma8 n)
  | .pop_HL => h_pop .hl
  | .ld_mC_A => h_stAInd .mC
  | .push_HL => h_push .hl
  | .and_d8 n => h_alu .and (.d8 n)
  | .rst_20 => h_rst .n4
  | .add_SP_e8 e => h_add_SP_e8 e
  | .jp_HL => h_jp_HL
  | .ld_ma16_A nn => h_stAInd (.ma16 nn)
  | .xor_d8 n => h_alu .xor (.d8 n)
  | .rst_28 => h_rst .n5
  | .ldh_A_ma8 n => h_ldAInd (.ma8 n)
  | .pop_AF => h_pop .af
  | .ld_A_mC => h_ldAInd .mC
  | .di => h_di
  | .push_AF => h_push .af
  | .or_d8 n => h_alu .or (.d8 n)
  | .rst_30 => h_rst .n6
  | .ld_HL_SPe8 e => h_ld_HL_SPe8 e
  | .ld_SP_HL => h_ld_SP_HL
  | .ld_A_ma16 nn => h_ldAInd (.ma16 nn)
  | .ei => h_ei
  | .cp_d8 n => h_alu .cp (.d8 n)
  | .rst_38 => h_rst .n7
  | .rlc_B => h_rot .rlc (.reg .b)
  | .rlc_C => h_rot .rlc (.reg .c)
  | .rlc_D => h_rot .rlc (.reg .d)
  | .rlc_E => h_rot .rlc (.reg .e)
  | .rlc_H => h_rot .rlc (.reg .h)
  | .rlc_L => h_rot .rlc (.reg .l)
  | .rlc_mHL => h_rot .rlc .mHL
  | .rlc_A => h_rot .rlc (.reg .a)
  | .rrc_B => h_rot .rrc (.reg .b)
  | .rrc_C => h_rot .rrc (.reg .c)
  | .rrc_D => h_rot .rrc (.reg .d)
  | .rrc_E => h_rot .rrc (.reg .e)
  | .rrc_H => h_rot .rrc (.reg .h)
  | .rrc_L => h_rot .rrc (.reg .l)
  | .rrc_mHL => h_rot .rrc .mHL
  | .rrc_A => h_rot .rrc (.reg .a)
  | .rl_B => h_rot .rl (.reg .b)
  | .rl_C => h_rot .rl (.reg .c)
  | .rl_D => h_rot .rl (.reg .d)
  | .rl_E => h_rot .rl (.reg .e)
  | .rl_H => h_rot .rl (.reg .h)
  | .rl_L => h_rot .rl (.reg .l)
  | .rl_mHL => h_rot .rl .mHL
  | .rl_A => h_rot .rl (.reg .a)
  | .rr_B => h_rot .rr (.reg .b)
  | .rr_C => h_rot .rr (.reg .c)
  | .rr_D => h_rot .rr (.reg .d)
  | .rr_E => h_rot .rr (.reg .e)
  | .rr_H => h_rot .rr (.reg .h)
  | .rr_L => h_rot .rr (.reg .l)
  | .rr_mHL => h_rot .rr .mHL
  | .rr_A => h_rot .rr (.reg .a)
  | .sla_B => h_rot .sla (.reg .b)
  | .sla_C => h_rot .sla (.reg .c)
  | .sla_D => h_rot .sla (.reg .d)
  | .sla_E => h_rot .sla (.reg .e)
  | .sla_H => h_rot .sla (.reg .h)
  | .sla_L => h_rot .sla (.reg .l)
  | .sla_mHL => h_rot .sla .mHL
  | .sla_A => h_rot .sla (.reg .a)
  | .sra_B => h_rot .sra (.reg .b)
  | .sra_C => h_rot .sra (.reg .c)
  | .sra_D => h_rot .sra (.reg .d)
  | .sra_E => h_rot .sra (.reg .e)
  | .sra_H => h_rot .sra (.reg .h)
  | .sra_L => h_rot .sra (.reg .l)
  | .sra_mHL => h_rot .sra .mHL
  | .sra_A => h_rot .sra (.reg .a)
  | .swap_B => h_rot .swap (.reg .b)
  | .swap_C => h_rot .swap (.reg .c)
  | .swap_D => h_rot .swap (.reg .d)
  | .swap_E => h_rot .swap (.reg .e)
  | .swap_H => h_rot .swap (.reg .h)
  | .swap_L => h_rot .swap (.reg .l)
  | .swap_mHL => h_rot .swap .mHL
  | .swap_A => h_rot .swap (.reg .a)
  | .srl_B => h_rot .srl (.reg .b)
  | .srl_C => h_rot .srl (.reg .c)
  | .srl_D => h_rot .srl (.reg .d)
  | .srl_E => h_rot .srl (.reg .e)
  | .srl_H => h_rot .srl (.reg .h)
  | .srl_L => h_rot .srl (.reg .l)
  | .srl_mHL => h_rot .srl .mHL
  | .srl_A => h_rot .srl (.reg .a)
  | .bit_0_B => h_bit .n0 (.reg .b)
  | .bit_0_C => h_bit .n0 (.reg .c)
  | .bit_0_D => h_bit .n0 (.reg .d)
  | .bit_0_E => h_bit .n0 (.reg .e)
  | .bit_0_H => h_bit .n0 (.reg .h)
  | .bit_0_L => h_bit .n0 (.reg .l)
  | .bit_0_mHL => h_bit .n0 .mHL
  | .bit_0_A => h_bit .n0 (.reg .a)
  | .bit_1_B => h_bit .n1 (.reg .b)
  | .bit_1_C => h_bit .n1 (.reg .c)
  | .bit_1_D => h_bit .n1 (.reg .d)
  | .bit_1_E => h_bit .n1 (.reg .e)
  | .bit_1_H => h_bit .n1 (.reg .h)
  | .bit_1_L => h_bit .n1 (.reg .l)
  | .bit_1_mHL => h_bit .n1 .mHL
  | .bit_1_A => h_bit .n1 (.reg .a)
  | .bit_2_B => h_bit .n2 (.reg .b)
  | .bit_2_C => h_bit .n2 (.reg .c)
  | .bit_2_D => h_bit .n2 (.reg .d)
  | .bit_2_E => h_bit .n2 (.reg .e)
  | .bit_2_H => h_bit .n2 (.reg .h)
  | .bit_2_L => h_bit .n2 (.reg .l)
  | .bit_2_mHL => h_bit .n2 .mHL
  | .bit_2_A => h_bit .n2 (.reg .a)
  | .bit_3_B => h_bit .n3 (.reg .b)
  | .bit_3_C => h_bit .n3 (.reg .c)
  | .bit_3_D => h_bit .n3 (.reg .d)
  | .bit_3_E => h_bit .n3 (.reg .e)
  | .bit_3_H => h_bit .n3 (.reg .h)
  | .bit_3_L => h_bit .n3 (.reg .l)
  | .bit_3_mHL => h_bit .n3 .mHL
  | .bit_3_A => h_bit .n3 (.reg .a)
  | .bit_4_B => h_bit .n4 (.reg .b)
  | .bit_4_C => h_bit .n4 (.reg .c)
  | .bit_4_D => h_bit .n4 (.reg .d)
  | .bit_4_E => h_bit .n4 (.reg .e)
  | .bit_4_H => h_bit .n4 (.reg .h)
  | .bit_4_L => h_bit .n4 (.reg .l)
  | .bit_4_mHL => h_bit .n4 .mHL
  | .bit_4_A => h_bit .n4 (.reg .a)
  | .bit_5_B => h_bit .n5 (.reg .b)
  | .bit_5_C => h_bit .n5 (.reg .c)
  | .bit_5_D => h_bit .n5 (.reg .d)
  | .bit_5_E => h_bit .n5 (.reg .e)
  | .bit_5_H => h_bit .n5 (.reg .h)
  | .bit_5_L => h_bit .n5 (.reg .l)
  | .bit_5_mHL => h_bit .n5 .mHL
  | .bit_5_A => h_bit .n5 (.reg .a)
  | .bit_6_B => h_bit .n6 (.reg .b)
  | .bit_6_C => h_bit .n6 (.reg .c)
  | .bit_6_D => h_bit .n6 (.reg .d)
  | .bit_6_E => h_bit .n6 (.reg .e)
  | .bit_6_H => h_bit .n6 (.reg .h)
  | .bit_6_L => h_bit .n6 (.reg .l)
  | .bit_6_mHL => h_bit .n6 .mHL
  | .bit_6_A => h_bit .n6 (.reg .a)
  | .bit_7_B => h_bit .n7 (.reg .b)
  | .bit_7_C => h_bit .n7 (.reg .c)
  | .bit_7_D => h_bit .n7 (.reg .d)
  | .bit_7_E => h_bit .n7 (.reg .e)
  | .bit_7_H => h_bit .n7 (.reg .h)
  | .bit_7_L => h_bit .n7 (.reg .l)
  | .bit_7_mHL => h_bit .n7 .mHL
  | .bit_7_A => h_bit .n7 (.reg .a)
  | .res_0_B => h_res .n0 (.reg .b)
  | .res_0_C => h_res .n0 (.reg .c)
  | .res_0_D => h_res .n0 (.reg .d)
  | .res_0_E => h_res .n0 (.reg .e)
  | .res_0_H => h_res .n0 (.reg .h)
  | .res_0_L => h_res .n0 (.reg .l)
  | .res_0_mHL => h_res .n0 .mHL
  | .res_0_A => h_res .n0 (.reg .a)
  | .res_1_B => h_res .n1 (.reg .b)
  | .res_1_C => h_res .n1 (.reg .c)
  | .res_1_D => h_res .n1 (.reg .d)
  | .res_1_E => h_res .n1 (.reg .e)
  | .res_1_H => h_res .n1 (.reg .h)
  | .res_1_L => h_res .n1 (.reg .l)
  | .res_1_mHL => h_res .n1 .mHL
  | .res_1_A => h_res .n1 (.reg .a)
  | .res_2_B => h_res .n2 (.reg .b)
  | .res_2_C => h_res .n2 (.reg .c)
  | .res_2_D => h_res .n2 (.reg .d)
  | .res_2_E => h_res .n2 (.reg .e)
  | .res_2_H => h_res .n2 (.reg .h)
  | .res_2_L => h_res .n2 (.reg .l)
  | .res_2_mHL => h_res .n2 .mHL
  | .res_2_A => h_res .n2 (.reg .a)
  | .res_3_B => h_res .n3 (.reg .b)
  | .res_3_C => h_res .n3 (.reg .c)
  | .res_3_D => h_res .n3 (.reg .d)
  | .res_3_E => h_res .n3 (.reg .e)
  | .res_3_H => h_res .n3 (.reg .h)
  | .res_3_L => h_res .n3 (.reg .l)
  | .res_3_mHL => h_res .n3 .mHL
  | .res_3_A => h_res .n3 (.reg .a)
  | .res_4_B => h_res .n4 (.reg .b)
  | .res_4_C => h_res .n4 (.reg .c)
  | .res_4_D => h_res .n4 (.reg .d)
  | .res_4_E => h_res .n4 (.reg .e)
  | .res_4_H => h_res .n4 (.reg .h)
  | .res_4_L => h_res .n4 (.reg .l)
  | .res_4_mHL => h_res .n4 .mHL
  | .res_4_A => h_res .n4 (.reg .a)
  | .res_5_B => h_res .n5 (.reg .b)
  | .res_5_C => h_res .n5 (.reg .c)
  | .res_5_D => h_res .n5 (.reg .d)
  | .res_5_E => h_res .n5 (.reg .e)
  | .res_5_H => h_res .n5 (.reg .h)
  | .res_5_L => h_res .n5 (.reg .l)
  | .res_5_mHL => h_res .n5 .mHL
  | .res_5_A => h_res .n5 (.reg .a)
  | .res_6_B => h_res .n6 (.reg .b)
  | .res_6_C => h_res .n6 (.reg .c)
  | .res_6_D => h_res .n6 (.reg .d)
  | .res_6_E => h_res .n6 (.reg .e)
  | .res_6_H => h_res .n6 (.reg .h)
  | .res_6_L => h_res .n6 (.reg .l)
  | .res_6_mHL => h_res .n6 .mHL
  | .res_6_A => h_res .n6 (.reg .a)
  | .res_7_B => h_res .n7 (.reg .b)
  | .res_7_C => h_res .n7 (.reg .c)
  | .res_7_D => h_res .n7 (.reg .d)
  | .res_7_E => h_res .n7 (.reg .e)
  | .res_7_H => h_res .n7 (.reg .h)
  | .res_7_L => h_res .n7 (.reg .l)
  | .res_7_mHL => h_res .n7 .mHL
  | .res_7_A => h_res .n7 (.reg .a)
  | .set_0_B => h_set .n0 (.reg .b)
  | .set_0_C => h_set .n0 (.reg .c)
  | .set_0_D => h_set .n0 (.reg .d)
  | .set_0_E => h_set .n0 (.reg .e)
  | .set_0_H => h_set .n0 (.reg .h)
  | .set_0_L => h_set .n0 (.reg .l)
  | .set_0_mHL => h_set .n0 .mHL
  | .set_0_A => h_set .n0 (.reg .a)
  | .set_1_B => h_set .n1 (.reg .b)
  | .set_1_C => h_set .n1 (.reg .c)
  | .set_1_D => h_set .n1 (.reg .d)
  | .set_1_E => h_set .n1 (.reg .e)
  | .set_1_H => h_set .n1 (.reg .h)
  | .set_1_L => h_set .n1 (.reg .l)
  | .set_1_mHL => h_set .n1 .mHL
  | .set_1_A => h_set .n1 (.reg .a)
  | .set_2_B => h_set .n2 (.reg .b)
  | .set_2_C => h_set .n2 (.reg .c)
  | .set_2_D => h_set .n2 (.reg .d)
  | .set_2_E => h_set .n2 (.reg .e)
  | .set_2_H => h_set .n2 (.reg .h)
  | .set_2_L => h_set .n2 (.reg .l)
  | .set_2_mHL => h_set .n2 .mHL
  | .set_2_A => h_set .n2 (.reg .a)
  | .set_3_B => h_set .n3 (.reg .b)
  | .set_3_C => h_set .n3 (.reg .c)
  | .set_3_D => h_set .n3 (.reg .d)
  | .set_3_E => h_set .n3 (.reg .e)
  | .set_3_H => h_set .n3 (.reg .h)
  | .set_3_L => h_set .n3 (.reg .l)
  | .set_3_mHL => h_set .n3 .mHL
  | .set_3_A => h_set .n3 (.reg .a)
  | .set_4_B => h_set .n4 (.reg .b)
  | .set_4_C => h_set .n4 (.reg .c)
  | .set_4_D => h_set .n4 (.reg .d)
  | .set_4_E => h_set .n4 (.reg .e)
  | .set_4_H => h_set .n4 (.reg .h)
  | .set_4_L => h_set .n4 (.reg .l)
  | .set_4_mHL => h_set .n4 .mHL
  | .set_4_A => h_set .n4 (.reg .a)
  | .set_5_B => h_set .n5 (.reg .b)
  | .set_5_C => h_set .n5 (.reg .c)
  | .set_5_D => h_set .n5 (.reg .d)
  | .set_5_E => h_set .n5 (.reg .e)
  | .set_5_H => h_set .n5 (.reg .h)
  | .set_5_L => h_set .n5 (.reg .l)
  | .set_5_mHL => h_set .n5 .mHL
  | .set_5_A => h_set .n5 (.reg .a)
  | .set_6_B => h_set .n6 (.reg .b)
  | .set_6_C => h_set .n6 (.reg .c)
  | .set_6_D => h_set .n6 (.reg .d)
  | .set_6_E => h_set .n6 (.reg .e)
  | .set_6_H => h_set .n6 (.reg .h)
  | .set_6_L => h_set .n6 (.reg .l)
  | .set_6_mHL => h_set .n6 .mHL
  | .set_6_A => h_set .n6 (.reg .a)
  | .set_7_B => h_set .n7 (.reg .b)
  | .set_7_C => h_set .n7 (.reg .c)
  | .set_7_D => h_set .n7 (.reg .d)
  | .set_7_E => h_set .n7 (.reg .e)
  | .set_7_H => h_set .n7 (.reg .h)
  | .set_7_L => h_set .n7 (.reg .l)
  | .set_7_mHL => h_set .n7 .mHL
  | .set_7_A => h_set .n7 (.reg .a)

end Sys2Proof.Machine
end

