-- ==== Sys2Proof/Laws/Memory.lean ====
section
/-! SUPPORT. The laws of memory: read after write, and every operation keeps the canonical form. -/

namespace Sys2Proof.Machine

theorem Memory.read_nil (a : Nat) : Memory.read [] a = unlistedByte := rfl

theorem Memory.read_erase_same (m : Memory) (a : Nat) : (m.erase a).read a = unlistedByte := by
  induction m with
  | nil => rfl
  | cons p m ih =>
    obtain ⟨k, w⟩ := p
    by_cases h : k = a
    · simp [Memory.erase, h, ih]
    · simp [Memory.erase, Memory.read, h, ih]

theorem Memory.read_erase_other (m : Memory) {a b : Nat} (h : b ≠ a) : (m.erase a).read b = m.read b := by
  induction m with
  | nil => rfl
  | cons p m ih =>
    obtain ⟨k, w⟩ := p
    by_cases hk : k = a
    · subst hk
      simp [Memory.erase, Memory.read, ih, Ne.symm h]
    · by_cases hb : k = b
      · simp [Memory.erase, Memory.read, hb, h]
      · simp [Memory.erase, Memory.read, hk, hb, ih]

theorem Memory.read_insert_other (m : Memory) {a b : Nat} (v : Byte) (h : b ≠ a) : (m.insert a v).read b = m.read b := by
  induction m with
  | nil => simp [Memory.insert, Memory.read, Ne.symm h]
  | cons p m ih =>
    obtain ⟨k, w⟩ := p
    by_cases hk : a < k
    · simp [Memory.insert, Memory.read, hk, Ne.symm h]
    · simp [Memory.insert, Memory.read, hk, ih]

theorem Memory.read_insert_same (m : Memory) (a : Nat) (v : Byte) (h : m.read a = unlistedByte ∧ ∀ w, (a, w) ∉ m) :
    (m.insert a v).read a = v := by
  induction m with
  | nil => simp [Memory.insert, Memory.read]
  | cons p m ih =>
    obtain ⟨k, w⟩ := p
    by_cases hk : a < k
    · simp [Memory.insert, Memory.read, hk]
    · have hne : k ≠ a := fun e => h.2 w (by simp [e])
      have hm : Memory.read m a = unlistedByte ∧ ∀ w, (a, w) ∉ m :=
        ⟨by simpa [Memory.read, hne] using h.1, fun w' hw => h.2 w' (by simp [hw])⟩
      simp [Memory.insert, Memory.read, hk, hne, ih hm]

theorem Memory.not_mem_erase (m : Memory) (a : Nat) (w : Byte) : (a, w) ∉ m.erase a := by
  induction m with
  | nil => simp [Memory.erase]
  | cons p m ih =>
    obtain ⟨k, v⟩ := p
    by_cases h : k = a
    · simp [Memory.erase, h, ih]
    · simp [Memory.erase, h, ih, Ne.symm h]

/-- A read after a write to the same address gives the byte written. -/
@[simp] theorem Memory.read_write_same (m : Memory) (a : Nat) (v : Byte) : (m.write a v).read a = v := by
  by_cases h : v = unlistedByte
  · simp [Memory.write, h, Memory.read_erase_same]
  · simp only [Memory.write, h, if_false]
    exact Memory.read_insert_same _ _ _ ⟨Memory.read_erase_same m a, Memory.not_mem_erase m a⟩

/-- A write leaves every other address alone. -/
theorem Memory.read_write_other (m : Memory) {a b : Nat} (v : Byte) (h : b ≠ a) : (m.write a v).read b = m.read b := by
  by_cases hv : v = unlistedByte
  · simp [Memory.write, hv, Memory.read_erase_other m h]
  · simp only [Memory.write, hv, if_false]
    rw [Memory.read_insert_other _ v h, Memory.read_erase_other m h]

/-- What a read gives after a write. -/
theorem Memory.read_write (m : Memory) (a b : Nat) (v : Byte) :
    (m.write a v).read b = if b = a then v else m.read b := by
  by_cases h : b = a
  · simp [h]
  · simp [h, Memory.read_write_other m v h]

theorem Memory.wfFrom_cons (start k : Nat) (v : Byte) (m : Memory) :
    Memory.wfFrom start ((k, v) :: m) = true ↔
      start ≤ k ∧ k < 65536 ∧ v ≠ unlistedByte ∧ Memory.wfFrom (k + 1) m = true := by
  simp [Memory.wfFrom, and_assoc]

theorem Memory.wfFrom_mono {m : Memory} {n n' : Nat} (h : n' ≤ n) (hw : Memory.wfFrom n m = true) :
    Memory.wfFrom n' m = true := by
  cases m with
  | nil => rfl
  | cons p m =>
    obtain ⟨k, v⟩ := p
    rw [Memory.wfFrom_cons] at hw ⊢
    exact ⟨le_trans h hw.1, hw.2⟩

theorem Memory.erase_wfFrom {m : Memory} {n : Nat} (a : Nat) (h : Memory.wfFrom n m = true) :
    Memory.wfFrom n (m.erase a) = true := by
  induction m generalizing n with
  | nil => rfl
  | cons p m ih =>
    obtain ⟨k, v⟩ := p
    rw [Memory.wfFrom_cons] at h
    by_cases hk : k = a
    · simp only [Memory.erase, hk, if_true]
      exact Memory.wfFrom_mono (by omega) (ih h.2.2.2)
    · simp only [Memory.erase, hk, if_false]
      rw [Memory.wfFrom_cons]
      exact ⟨h.1, h.2.1, h.2.2.1, ih h.2.2.2⟩

theorem Memory.insert_wfFrom {m : Memory} {n a : Nat} {v : Byte} (h : Memory.wfFrom n m = true) (hn : n ≤ a)
    (ha : a < 65536) (hv : v ≠ unlistedByte) (hm : ∀ w, (a, w) ∉ m) : Memory.wfFrom n (m.insert a v) = true := by
  induction m generalizing n with
  | nil => simp [Memory.insert, Memory.wfFrom, hn, ha, hv]
  | cons p m ih =>
    obtain ⟨k, w⟩ := p
    rw [Memory.wfFrom_cons] at h
    by_cases hk : a < k
    · simp only [Memory.insert, hk, if_true]
      rw [Memory.wfFrom_cons, Memory.wfFrom_cons]
      exact ⟨hn, ha, hv, hk, h.2.1, h.2.2.1, h.2.2.2⟩
    · have hne : k ≠ a := fun e => hm w (by simp [e])
      simp only [Memory.insert, hk, if_false]
      rw [Memory.wfFrom_cons]
      exact ⟨h.1, h.2.1, h.2.2.1, ih h.2.2.2 (by omega) fun w' hw => hm w' (by simp [hw])⟩

/-- A write below 65,536 keeps the canonical form. -/
theorem Memory.write_wf {m : Memory} {a : Nat} (v : Byte) (h : m.wf = true) (ha : a < 65536) : (m.write a v).wf = true := by
  unfold Memory.wf at *
  by_cases hv : v = unlistedByte
  · simpa [Memory.write, hv] using Memory.erase_wfFrom a h
  · simp only [Memory.write, hv, if_false]
    exact Memory.insert_wfFrom (Memory.erase_wfFrom a h) (Nat.zero_le _) ha hv (Memory.not_mem_erase m a)

/-- A write at a word address keeps the canonical form. -/
theorem Memory.write_word_wf {m : Memory} (a : Word) (v : Byte) (h : m.wf = true) : (m.write a.toNat v).wf = true :=
  Memory.write_wf v h a.isLt

end Sys2Proof.Machine
end

