-- ==== Sys2Proof/Laws/State.lean ====
section
/-! SUPPORT. One lemma per field of State per operation that updates it. -/

namespace Sys2Proof.Machine

/-! ### `writeF` -/

@[simp] theorem State.writeF_a (s : State) (v : Byte) : (s.writeF v).a = s.a := rfl
@[simp] theorem State.writeF_f (s : State) (v : Byte) : (s.writeF v).f = v &&& 0xF0 := rfl
@[simp] theorem State.writeF_b (s : State) (v : Byte) : (s.writeF v).b = s.b := rfl
@[simp] theorem State.writeF_c (s : State) (v : Byte) : (s.writeF v).c = s.c := rfl
@[simp] theorem State.writeF_d (s : State) (v : Byte) : (s.writeF v).d = s.d := rfl
@[simp] theorem State.writeF_e (s : State) (v : Byte) : (s.writeF v).e = s.e := rfl
@[simp] theorem State.writeF_h (s : State) (v : Byte) : (s.writeF v).h = s.h := rfl
@[simp] theorem State.writeF_l (s : State) (v : Byte) : (s.writeF v).l = s.l := rfl
@[simp] theorem State.writeF_sp (s : State) (v : Byte) : (s.writeF v).sp = s.sp := rfl
@[simp] theorem State.writeF_pc (s : State) (v : Byte) : (s.writeF v).pc = s.pc := rfl
@[simp] theorem State.writeF_ime (s : State) (v : Byte) : (s.writeF v).ime = s.ime := rfl
@[simp] theorem State.writeF_halted (s : State) (v : Byte) : (s.writeF v).halted = s.halted := rfl
@[simp] theorem State.writeF_stopped (s : State) (v : Byte) : (s.writeF v).stopped = s.stopped := rfl
@[simp] theorem State.writeF_haltBug (s : State) (v : Byte) : (s.writeF v).haltBug = s.haltBug := rfl
@[simp] theorem State.writeF_mem (s : State) (v : Byte) : (s.writeF v).mem = s.mem := rfl
@[simp] theorem State.writeF_params (s : State) (v : Byte) : (s.writeF v).params = s.params := rfl
@[simp] theorem State.writeF_inputs (s : State) (v : Byte) : (s.writeF v).inputs = s.inputs := rfl
@[simp] theorem State.writeF_cycles (s : State) (v : Byte) : (s.writeF v).cycles = s.cycles := rfl
@[simp] theorem State.writeF_busLog (s : State) (v : Byte) : (s.writeF v).busLog = s.busLog := rfl

/-! ### `setFlags` -/

@[simp] theorem State.setFlags_a (s : State) (z n h c : Bool) : (s.setFlags z n h c).a = s.a := rfl
@[simp] theorem State.setFlags_f (s : State) (z n h c : Bool) : (s.setFlags z n h c).f = packFlags z n h c &&& 0xF0 := rfl
@[simp] theorem State.setFlags_b (s : State) (z n h c : Bool) : (s.setFlags z n h c).b = s.b := rfl
@[simp] theorem State.setFlags_c (s : State) (z n h c : Bool) : (s.setFlags z n h c).c = s.c := rfl
@[simp] theorem State.setFlags_d (s : State) (z n h c : Bool) : (s.setFlags z n h c).d = s.d := rfl
@[simp] theorem State.setFlags_e (s : State) (z n h c : Bool) : (s.setFlags z n h c).e = s.e := rfl
@[simp] theorem State.setFlags_h (s : State) (z n h c : Bool) : (s.setFlags z n h c).h = s.h := rfl
@[simp] theorem State.setFlags_l (s : State) (z n h c : Bool) : (s.setFlags z n h c).l = s.l := rfl
@[simp] theorem State.setFlags_sp (s : State) (z n h c : Bool) : (s.setFlags z n h c).sp = s.sp := rfl
@[simp] theorem State.setFlags_pc (s : State) (z n h c : Bool) : (s.setFlags z n h c).pc = s.pc := rfl
@[simp] theorem State.setFlags_ime (s : State) (z n h c : Bool) : (s.setFlags z n h c).ime = s.ime := rfl
@[simp] theorem State.setFlags_halted (s : State) (z n h c : Bool) : (s.setFlags z n h c).halted = s.halted := rfl
@[simp] theorem State.setFlags_stopped (s : State) (z n h c : Bool) : (s.setFlags z n h c).stopped = s.stopped := rfl
@[simp] theorem State.setFlags_haltBug (s : State) (z n h c : Bool) : (s.setFlags z n h c).haltBug = s.haltBug := rfl
@[simp] theorem State.setFlags_mem (s : State) (z n h c : Bool) : (s.setFlags z n h c).mem = s.mem := rfl
@[simp] theorem State.setFlags_params (s : State) (z n h c : Bool) : (s.setFlags z n h c).params = s.params := rfl
@[simp] theorem State.setFlags_inputs (s : State) (z n h c : Bool) : (s.setFlags z n h c).inputs = s.inputs := rfl
@[simp] theorem State.setFlags_cycles (s : State) (z n h c : Bool) : (s.setFlags z n h c).cycles = s.cycles := rfl
@[simp] theorem State.setFlags_busLog (s : State) (z n h c : Bool) : (s.setFlags z n h c).busLog = s.busLog := rfl

/-! ### `setBC` -/

@[simp] theorem State.setBC_a (s : State) (w : Word) : (s.setBC w).a = s.a := rfl
@[simp] theorem State.setBC_f (s : State) (w : Word) : (s.setBC w).f = s.f := rfl
@[simp] theorem State.setBC_b (s : State) (w : Word) : (s.setBC w).b = hi w := rfl
@[simp] theorem State.setBC_c (s : State) (w : Word) : (s.setBC w).c = lo w := rfl
@[simp] theorem State.setBC_d (s : State) (w : Word) : (s.setBC w).d = s.d := rfl
@[simp] theorem State.setBC_e (s : State) (w : Word) : (s.setBC w).e = s.e := rfl
@[simp] theorem State.setBC_h (s : State) (w : Word) : (s.setBC w).h = s.h := rfl
@[simp] theorem State.setBC_l (s : State) (w : Word) : (s.setBC w).l = s.l := rfl
@[simp] theorem State.setBC_sp (s : State) (w : Word) : (s.setBC w).sp = s.sp := rfl
@[simp] theorem State.setBC_pc (s : State) (w : Word) : (s.setBC w).pc = s.pc := rfl
@[simp] theorem State.setBC_ime (s : State) (w : Word) : (s.setBC w).ime = s.ime := rfl
@[simp] theorem State.setBC_halted (s : State) (w : Word) : (s.setBC w).halted = s.halted := rfl
@[simp] theorem State.setBC_stopped (s : State) (w : Word) : (s.setBC w).stopped = s.stopped := rfl
@[simp] theorem State.setBC_haltBug (s : State) (w : Word) : (s.setBC w).haltBug = s.haltBug := rfl
@[simp] theorem State.setBC_mem (s : State) (w : Word) : (s.setBC w).mem = s.mem := rfl
@[simp] theorem State.setBC_params (s : State) (w : Word) : (s.setBC w).params = s.params := rfl
@[simp] theorem State.setBC_inputs (s : State) (w : Word) : (s.setBC w).inputs = s.inputs := rfl
@[simp] theorem State.setBC_cycles (s : State) (w : Word) : (s.setBC w).cycles = s.cycles := rfl
@[simp] theorem State.setBC_busLog (s : State) (w : Word) : (s.setBC w).busLog = s.busLog := rfl

/-! ### `setDE` -/

@[simp] theorem State.setDE_a (s : State) (w : Word) : (s.setDE w).a = s.a := rfl
@[simp] theorem State.setDE_f (s : State) (w : Word) : (s.setDE w).f = s.f := rfl
@[simp] theorem State.setDE_b (s : State) (w : Word) : (s.setDE w).b = s.b := rfl
@[simp] theorem State.setDE_c (s : State) (w : Word) : (s.setDE w).c = s.c := rfl
@[simp] theorem State.setDE_d (s : State) (w : Word) : (s.setDE w).d = hi w := rfl
@[simp] theorem State.setDE_e (s : State) (w : Word) : (s.setDE w).e = lo w := rfl
@[simp] theorem State.setDE_h (s : State) (w : Word) : (s.setDE w).h = s.h := rfl
@[simp] theorem State.setDE_l (s : State) (w : Word) : (s.setDE w).l = s.l := rfl
@[simp] theorem State.setDE_sp (s : State) (w : Word) : (s.setDE w).sp = s.sp := rfl
@[simp] theorem State.setDE_pc (s : State) (w : Word) : (s.setDE w).pc = s.pc := rfl
@[simp] theorem State.setDE_ime (s : State) (w : Word) : (s.setDE w).ime = s.ime := rfl
@[simp] theorem State.setDE_halted (s : State) (w : Word) : (s.setDE w).halted = s.halted := rfl
@[simp] theorem State.setDE_stopped (s : State) (w : Word) : (s.setDE w).stopped = s.stopped := rfl
@[simp] theorem State.setDE_haltBug (s : State) (w : Word) : (s.setDE w).haltBug = s.haltBug := rfl
@[simp] theorem State.setDE_mem (s : State) (w : Word) : (s.setDE w).mem = s.mem := rfl
@[simp] theorem State.setDE_params (s : State) (w : Word) : (s.setDE w).params = s.params := rfl
@[simp] theorem State.setDE_inputs (s : State) (w : Word) : (s.setDE w).inputs = s.inputs := rfl
@[simp] theorem State.setDE_cycles (s : State) (w : Word) : (s.setDE w).cycles = s.cycles := rfl
@[simp] theorem State.setDE_busLog (s : State) (w : Word) : (s.setDE w).busLog = s.busLog := rfl

/-! ### `setHL` -/

@[simp] theorem State.setHL_a (s : State) (w : Word) : (s.setHL w).a = s.a := rfl
@[simp] theorem State.setHL_f (s : State) (w : Word) : (s.setHL w).f = s.f := rfl
@[simp] theorem State.setHL_b (s : State) (w : Word) : (s.setHL w).b = s.b := rfl
@[simp] theorem State.setHL_c (s : State) (w : Word) : (s.setHL w).c = s.c := rfl
@[simp] theorem State.setHL_d (s : State) (w : Word) : (s.setHL w).d = s.d := rfl
@[simp] theorem State.setHL_e (s : State) (w : Word) : (s.setHL w).e = s.e := rfl
@[simp] theorem State.setHL_h (s : State) (w : Word) : (s.setHL w).h = hi w := rfl
@[simp] theorem State.setHL_l (s : State) (w : Word) : (s.setHL w).l = lo w := rfl
@[simp] theorem State.setHL_sp (s : State) (w : Word) : (s.setHL w).sp = s.sp := rfl
@[simp] theorem State.setHL_pc (s : State) (w : Word) : (s.setHL w).pc = s.pc := rfl
@[simp] theorem State.setHL_ime (s : State) (w : Word) : (s.setHL w).ime = s.ime := rfl
@[simp] theorem State.setHL_halted (s : State) (w : Word) : (s.setHL w).halted = s.halted := rfl
@[simp] theorem State.setHL_stopped (s : State) (w : Word) : (s.setHL w).stopped = s.stopped := rfl
@[simp] theorem State.setHL_haltBug (s : State) (w : Word) : (s.setHL w).haltBug = s.haltBug := rfl
@[simp] theorem State.setHL_mem (s : State) (w : Word) : (s.setHL w).mem = s.mem := rfl
@[simp] theorem State.setHL_params (s : State) (w : Word) : (s.setHL w).params = s.params := rfl
@[simp] theorem State.setHL_inputs (s : State) (w : Word) : (s.setHL w).inputs = s.inputs := rfl
@[simp] theorem State.setHL_cycles (s : State) (w : Word) : (s.setHL w).cycles = s.cycles := rfl
@[simp] theorem State.setHL_busLog (s : State) (w : Word) : (s.setHL w).busLog = s.busLog := rfl

/-! ### `setAF` -/

@[simp] theorem State.setAF_a (s : State) (w : Word) : (s.setAF w).a = hi w := rfl
@[simp] theorem State.setAF_f (s : State) (w : Word) : (s.setAF w).f = lo w &&& 0xF0 := rfl
@[simp] theorem State.setAF_b (s : State) (w : Word) : (s.setAF w).b = s.b := rfl
@[simp] theorem State.setAF_c (s : State) (w : Word) : (s.setAF w).c = s.c := rfl
@[simp] theorem State.setAF_d (s : State) (w : Word) : (s.setAF w).d = s.d := rfl
@[simp] theorem State.setAF_e (s : State) (w : Word) : (s.setAF w).e = s.e := rfl
@[simp] theorem State.setAF_h (s : State) (w : Word) : (s.setAF w).h = s.h := rfl
@[simp] theorem State.setAF_l (s : State) (w : Word) : (s.setAF w).l = s.l := rfl
@[simp] theorem State.setAF_sp (s : State) (w : Word) : (s.setAF w).sp = s.sp := rfl
@[simp] theorem State.setAF_pc (s : State) (w : Word) : (s.setAF w).pc = s.pc := rfl
@[simp] theorem State.setAF_ime (s : State) (w : Word) : (s.setAF w).ime = s.ime := rfl
@[simp] theorem State.setAF_halted (s : State) (w : Word) : (s.setAF w).halted = s.halted := rfl
@[simp] theorem State.setAF_stopped (s : State) (w : Word) : (s.setAF w).stopped = s.stopped := rfl
@[simp] theorem State.setAF_haltBug (s : State) (w : Word) : (s.setAF w).haltBug = s.haltBug := rfl
@[simp] theorem State.setAF_mem (s : State) (w : Word) : (s.setAF w).mem = s.mem := rfl
@[simp] theorem State.setAF_params (s : State) (w : Word) : (s.setAF w).params = s.params := rfl
@[simp] theorem State.setAF_inputs (s : State) (w : Word) : (s.setAF w).inputs = s.inputs := rfl
@[simp] theorem State.setAF_cycles (s : State) (w : Word) : (s.setAF w).cycles = s.cycles := rfl
@[simp] theorem State.setAF_busLog (s : State) (w : Word) : (s.setAF w).busLog = s.busLog := rfl

/-! ### `set8` -/

@[simp] theorem State.set8_a (s : State) (r : Reg8) (v : Byte) : (s.set8 r v).a = if r = .a then v else s.a := by cases r <;> rfl
@[simp] theorem State.set8_f (s : State) (r : Reg8) (v : Byte) : (s.set8 r v).f = s.f := by cases r <;> rfl
@[simp] theorem State.set8_b (s : State) (r : Reg8) (v : Byte) : (s.set8 r v).b = if r = .b then v else s.b := by cases r <;> rfl
@[simp] theorem State.set8_c (s : State) (r : Reg8) (v : Byte) : (s.set8 r v).c = if r = .c then v else s.c := by cases r <;> rfl
@[simp] theorem State.set8_d (s : State) (r : Reg8) (v : Byte) : (s.set8 r v).d = if r = .d then v else s.d := by cases r <;> rfl
@[simp] theorem State.set8_e (s : State) (r : Reg8) (v : Byte) : (s.set8 r v).e = if r = .e then v else s.e := by cases r <;> rfl
@[simp] theorem State.set8_h (s : State) (r : Reg8) (v : Byte) : (s.set8 r v).h = if r = .h then v else s.h := by cases r <;> rfl
@[simp] theorem State.set8_l (s : State) (r : Reg8) (v : Byte) : (s.set8 r v).l = if r = .l then v else s.l := by cases r <;> rfl
@[simp] theorem State.set8_sp (s : State) (r : Reg8) (v : Byte) : (s.set8 r v).sp = s.sp := by cases r <;> rfl
@[simp] theorem State.set8_pc (s : State) (r : Reg8) (v : Byte) : (s.set8 r v).pc = s.pc := by cases r <;> rfl
@[simp] theorem State.set8_ime (s : State) (r : Reg8) (v : Byte) : (s.set8 r v).ime = s.ime := by cases r <;> rfl
@[simp] theorem State.set8_halted (s : State) (r : Reg8) (v : Byte) : (s.set8 r v).halted = s.halted := by cases r <;> rfl
@[simp] theorem State.set8_stopped (s : State) (r : Reg8) (v : Byte) : (s.set8 r v).stopped = s.stopped := by cases r <;> rfl
@[simp] theorem State.set8_haltBug (s : State) (r : Reg8) (v : Byte) : (s.set8 r v).haltBug = s.haltBug := by cases r <;> rfl
@[simp] theorem State.set8_mem (s : State) (r : Reg8) (v : Byte) : (s.set8 r v).mem = s.mem := by cases r <;> rfl
@[simp] theorem State.set8_params (s : State) (r : Reg8) (v : Byte) : (s.set8 r v).params = s.params := by cases r <;> rfl
@[simp] theorem State.set8_inputs (s : State) (r : Reg8) (v : Byte) : (s.set8 r v).inputs = s.inputs := by cases r <;> rfl
@[simp] theorem State.set8_cycles (s : State) (r : Reg8) (v : Byte) : (s.set8 r v).cycles = s.cycles := by cases r <;> rfl
@[simp] theorem State.set8_busLog (s : State) (r : Reg8) (v : Byte) : (s.set8 r v).busLog = s.busLog := by cases r <;> rfl

/-! ### `set16` -/

@[simp] theorem State.set16_a (s : State) (p : Reg16) (w : Word) : (s.set16 p w).a = s.a := by cases p <;> rfl
@[simp] theorem State.set16_f (s : State) (p : Reg16) (w : Word) : (s.set16 p w).f = s.f := by cases p <;> rfl
@[simp] theorem State.set16_pc (s : State) (p : Reg16) (w : Word) : (s.set16 p w).pc = s.pc := by cases p <;> rfl
@[simp] theorem State.set16_ime (s : State) (p : Reg16) (w : Word) : (s.set16 p w).ime = s.ime := by cases p <;> rfl
@[simp] theorem State.set16_halted (s : State) (p : Reg16) (w : Word) : (s.set16 p w).halted = s.halted := by cases p <;> rfl
@[simp] theorem State.set16_stopped (s : State) (p : Reg16) (w : Word) : (s.set16 p w).stopped = s.stopped := by cases p <;> rfl
@[simp] theorem State.set16_haltBug (s : State) (p : Reg16) (w : Word) : (s.set16 p w).haltBug = s.haltBug := by cases p <;> rfl
@[simp] theorem State.set16_mem (s : State) (p : Reg16) (w : Word) : (s.set16 p w).mem = s.mem := by cases p <;> rfl
@[simp] theorem State.set16_params (s : State) (p : Reg16) (w : Word) : (s.set16 p w).params = s.params := by cases p <;> rfl
@[simp] theorem State.set16_inputs (s : State) (p : Reg16) (w : Word) : (s.set16 p w).inputs = s.inputs := by cases p <;> rfl
@[simp] theorem State.set16_cycles (s : State) (p : Reg16) (w : Word) : (s.set16 p w).cycles = s.cycles := by cases p <;> rfl
@[simp] theorem State.set16_busLog (s : State) (p : Reg16) (w : Word) : (s.set16 p w).busLog = s.busLog := by cases p <;> rfl

/-! ### `set16s` -/

@[simp] theorem State.set16s_sp (s : State) (p : Reg16S) (w : Word) : (s.set16s p w).sp = s.sp := by cases p <;> rfl
@[simp] theorem State.set16s_pc (s : State) (p : Reg16S) (w : Word) : (s.set16s p w).pc = s.pc := by cases p <;> rfl
@[simp] theorem State.set16s_ime (s : State) (p : Reg16S) (w : Word) : (s.set16s p w).ime = s.ime := by cases p <;> rfl
@[simp] theorem State.set16s_halted (s : State) (p : Reg16S) (w : Word) : (s.set16s p w).halted = s.halted := by cases p <;> rfl
@[simp] theorem State.set16s_stopped (s : State) (p : Reg16S) (w : Word) : (s.set16s p w).stopped = s.stopped := by cases p <;> rfl
@[simp] theorem State.set16s_haltBug (s : State) (p : Reg16S) (w : Word) : (s.set16s p w).haltBug = s.haltBug := by cases p <;> rfl
@[simp] theorem State.set16s_mem (s : State) (p : Reg16S) (w : Word) : (s.set16s p w).mem = s.mem := by cases p <;> rfl
@[simp] theorem State.set16s_params (s : State) (p : Reg16S) (w : Word) : (s.set16s p w).params = s.params := by cases p <;> rfl
@[simp] theorem State.set16s_inputs (s : State) (p : Reg16S) (w : Word) : (s.set16s p w).inputs = s.inputs := by cases p <;> rfl
@[simp] theorem State.set16s_cycles (s : State) (p : Reg16S) (w : Word) : (s.set16s p w).cycles = s.cycles := by cases p <;> rfl
@[simp] theorem State.set16s_busLog (s : State) (p : Reg16S) (w : Word) : (s.set16s p w).busLog = s.busLog := by cases p <;> rfl

/-! ### `logAccess` -/

@[simp] theorem State.logAccess_a (s : State) (x : BusAccess) : (s.logAccess x).a = s.a := rfl
@[simp] theorem State.logAccess_f (s : State) (x : BusAccess) : (s.logAccess x).f = s.f := rfl
@[simp] theorem State.logAccess_b (s : State) (x : BusAccess) : (s.logAccess x).b = s.b := rfl
@[simp] theorem State.logAccess_c (s : State) (x : BusAccess) : (s.logAccess x).c = s.c := rfl
@[simp] theorem State.logAccess_d (s : State) (x : BusAccess) : (s.logAccess x).d = s.d := rfl
@[simp] theorem State.logAccess_e (s : State) (x : BusAccess) : (s.logAccess x).e = s.e := rfl
@[simp] theorem State.logAccess_h (s : State) (x : BusAccess) : (s.logAccess x).h = s.h := rfl
@[simp] theorem State.logAccess_l (s : State) (x : BusAccess) : (s.logAccess x).l = s.l := rfl
@[simp] theorem State.logAccess_sp (s : State) (x : BusAccess) : (s.logAccess x).sp = s.sp := rfl
@[simp] theorem State.logAccess_pc (s : State) (x : BusAccess) : (s.logAccess x).pc = s.pc := rfl
@[simp] theorem State.logAccess_ime (s : State) (x : BusAccess) : (s.logAccess x).ime = s.ime := rfl
@[simp] theorem State.logAccess_halted (s : State) (x : BusAccess) : (s.logAccess x).halted = s.halted := rfl
@[simp] theorem State.logAccess_stopped (s : State) (x : BusAccess) : (s.logAccess x).stopped = s.stopped := rfl
@[simp] theorem State.logAccess_haltBug (s : State) (x : BusAccess) : (s.logAccess x).haltBug = s.haltBug := rfl
@[simp] theorem State.logAccess_mem (s : State) (x : BusAccess) : (s.logAccess x).mem = s.mem := rfl
@[simp] theorem State.logAccess_params (s : State) (x : BusAccess) : (s.logAccess x).params = s.params := rfl
@[simp] theorem State.logAccess_inputs (s : State) (x : BusAccess) : (s.logAccess x).inputs = s.inputs := rfl
@[simp] theorem State.logAccess_cycles (s : State) (x : BusAccess) : (s.logAccess x).cycles = s.cycles := rfl
@[simp] theorem State.logAccess_busLog (s : State) (x : BusAccess) : (s.logAccess x).busLog = x :: s.busLog := rfl

/-! ### `busWrite` -/

@[simp] theorem State.busWrite_a (s : State) (x : Word) (v : Byte) : (s.busWrite x v).a = s.a := rfl
@[simp] theorem State.busWrite_f (s : State) (x : Word) (v : Byte) : (s.busWrite x v).f = s.f := rfl
@[simp] theorem State.busWrite_b (s : State) (x : Word) (v : Byte) : (s.busWrite x v).b = s.b := rfl
@[simp] theorem State.busWrite_c (s : State) (x : Word) (v : Byte) : (s.busWrite x v).c = s.c := rfl
@[simp] theorem State.busWrite_d (s : State) (x : Word) (v : Byte) : (s.busWrite x v).d = s.d := rfl
@[simp] theorem State.busWrite_e (s : State) (x : Word) (v : Byte) : (s.busWrite x v).e = s.e := rfl
@[simp] theorem State.busWrite_h (s : State) (x : Word) (v : Byte) : (s.busWrite x v).h = s.h := rfl
@[simp] theorem State.busWrite_l (s : State) (x : Word) (v : Byte) : (s.busWrite x v).l = s.l := rfl
@[simp] theorem State.busWrite_sp (s : State) (x : Word) (v : Byte) : (s.busWrite x v).sp = s.sp := rfl
@[simp] theorem State.busWrite_pc (s : State) (x : Word) (v : Byte) : (s.busWrite x v).pc = s.pc := rfl
@[simp] theorem State.busWrite_ime (s : State) (x : Word) (v : Byte) : (s.busWrite x v).ime = s.ime := rfl
@[simp] theorem State.busWrite_halted (s : State) (x : Word) (v : Byte) : (s.busWrite x v).halted = s.halted := rfl
@[simp] theorem State.busWrite_stopped (s : State) (x : Word) (v : Byte) : (s.busWrite x v).stopped = s.stopped := rfl
@[simp] theorem State.busWrite_haltBug (s : State) (x : Word) (v : Byte) : (s.busWrite x v).haltBug = s.haltBug := rfl
@[simp] theorem State.busWrite_mem (s : State) (x : Word) (v : Byte) : (s.busWrite x v).mem = s.mem.write x.toNat v := rfl
@[simp] theorem State.busWrite_params (s : State) (x : Word) (v : Byte) : (s.busWrite x v).params = s.params := rfl
@[simp] theorem State.busWrite_inputs (s : State) (x : Word) (v : Byte) : (s.busWrite x v).inputs = s.inputs := rfl
@[simp] theorem State.busWrite_cycles (s : State) (x : Word) (v : Byte) : (s.busWrite x v).cycles = s.cycles := rfl
@[simp] theorem State.busWrite_busLog (s : State) (x : Word) (v : Byte) : (s.busWrite x v).busLog = .write x v :: s.busLog := rfl

/-! ### `writePC` -/

@[simp] theorem State.writePC_a (s : State) (w : Word) : (s.writePC w).a = s.a := rfl
@[simp] theorem State.writePC_f (s : State) (w : Word) : (s.writePC w).f = s.f := rfl
@[simp] theorem State.writePC_b (s : State) (w : Word) : (s.writePC w).b = s.b := rfl
@[simp] theorem State.writePC_c (s : State) (w : Word) : (s.writePC w).c = s.c := rfl
@[simp] theorem State.writePC_d (s : State) (w : Word) : (s.writePC w).d = s.d := rfl
@[simp] theorem State.writePC_e (s : State) (w : Word) : (s.writePC w).e = s.e := rfl
@[simp] theorem State.writePC_h (s : State) (w : Word) : (s.writePC w).h = s.h := rfl
@[simp] theorem State.writePC_l (s : State) (w : Word) : (s.writePC w).l = s.l := rfl
@[simp] theorem State.writePC_sp (s : State) (w : Word) : (s.writePC w).sp = s.sp := rfl
@[simp] theorem State.writePC_pc (s : State) (w : Word) : (s.writePC w).pc = w := rfl
@[simp] theorem State.writePC_ime (s : State) (w : Word) : (s.writePC w).ime = s.ime := rfl
@[simp] theorem State.writePC_halted (s : State) (w : Word) : (s.writePC w).halted = s.halted := rfl
@[simp] theorem State.writePC_stopped (s : State) (w : Word) : (s.writePC w).stopped = s.stopped := rfl
@[simp] theorem State.writePC_haltBug (s : State) (w : Word) : (s.writePC w).haltBug = false := rfl
@[simp] theorem State.writePC_mem (s : State) (w : Word) : (s.writePC w).mem = s.mem := rfl
@[simp] theorem State.writePC_params (s : State) (w : Word) : (s.writePC w).params = s.params := rfl
@[simp] theorem State.writePC_inputs (s : State) (w : Word) : (s.writePC w).inputs = s.inputs := rfl
@[simp] theorem State.writePC_cycles (s : State) (w : Word) : (s.writePC w).cycles = s.cycles := rfl
@[simp] theorem State.writePC_busLog (s : State) (w : Word) : (s.writePC w).busLog = s.busLog := rfl

/-! ### `advance` -/

@[simp] theorem State.advance_a (s : State) (n : Nat) : (s.advance n).a = s.a := rfl
@[simp] theorem State.advance_f (s : State) (n : Nat) : (s.advance n).f = s.f := rfl
@[simp] theorem State.advance_b (s : State) (n : Nat) : (s.advance n).b = s.b := rfl
@[simp] theorem State.advance_c (s : State) (n : Nat) : (s.advance n).c = s.c := rfl
@[simp] theorem State.advance_d (s : State) (n : Nat) : (s.advance n).d = s.d := rfl
@[simp] theorem State.advance_e (s : State) (n : Nat) : (s.advance n).e = s.e := rfl
@[simp] theorem State.advance_h (s : State) (n : Nat) : (s.advance n).h = s.h := rfl
@[simp] theorem State.advance_l (s : State) (n : Nat) : (s.advance n).l = s.l := rfl
@[simp] theorem State.advance_sp (s : State) (n : Nat) : (s.advance n).sp = s.sp := rfl
@[simp] theorem State.advance_pc (s : State) (n : Nat) : (s.advance n).pc = s.nextPC n := rfl
@[simp] theorem State.advance_ime (s : State) (n : Nat) : (s.advance n).ime = s.ime := rfl
@[simp] theorem State.advance_halted (s : State) (n : Nat) : (s.advance n).halted = s.halted := rfl
@[simp] theorem State.advance_stopped (s : State) (n : Nat) : (s.advance n).stopped = s.stopped := rfl
@[simp] theorem State.advance_haltBug (s : State) (n : Nat) : (s.advance n).haltBug = false := rfl
@[simp] theorem State.advance_mem (s : State) (n : Nat) : (s.advance n).mem = s.mem := rfl
@[simp] theorem State.advance_params (s : State) (n : Nat) : (s.advance n).params = s.params := rfl
@[simp] theorem State.advance_inputs (s : State) (n : Nat) : (s.advance n).inputs = s.inputs := rfl
@[simp] theorem State.advance_cycles (s : State) (n : Nat) : (s.advance n).cycles = s.cycles := rfl
@[simp] theorem State.advance_busLog (s : State) (n : Nat) : (s.advance n).busLog = s.busLog := rfl

/-! ### `spend` -/

@[simp] theorem State.spend_a (s : State) (n : Nat) : (s.spend n).a = s.a := rfl
@[simp] theorem State.spend_f (s : State) (n : Nat) : (s.spend n).f = s.f := rfl
@[simp] theorem State.spend_b (s : State) (n : Nat) : (s.spend n).b = s.b := rfl
@[simp] theorem State.spend_c (s : State) (n : Nat) : (s.spend n).c = s.c := rfl
@[simp] theorem State.spend_d (s : State) (n : Nat) : (s.spend n).d = s.d := rfl
@[simp] theorem State.spend_e (s : State) (n : Nat) : (s.spend n).e = s.e := rfl
@[simp] theorem State.spend_h (s : State) (n : Nat) : (s.spend n).h = s.h := rfl
@[simp] theorem State.spend_l (s : State) (n : Nat) : (s.spend n).l = s.l := rfl
@[simp] theorem State.spend_sp (s : State) (n : Nat) : (s.spend n).sp = s.sp := rfl
@[simp] theorem State.spend_pc (s : State) (n : Nat) : (s.spend n).pc = s.pc := rfl
@[simp] theorem State.spend_ime (s : State) (n : Nat) : (s.spend n).ime = s.ime := rfl
@[simp] theorem State.spend_halted (s : State) (n : Nat) : (s.spend n).halted = s.halted := rfl
@[simp] theorem State.spend_stopped (s : State) (n : Nat) : (s.spend n).stopped = s.stopped := rfl
@[simp] theorem State.spend_haltBug (s : State) (n : Nat) : (s.spend n).haltBug = s.haltBug := rfl
@[simp] theorem State.spend_mem (s : State) (n : Nat) : (s.spend n).mem = s.mem := rfl
@[simp] theorem State.spend_params (s : State) (n : Nat) : (s.spend n).params = s.params := rfl
@[simp] theorem State.spend_inputs (s : State) (n : Nat) : (s.spend n).inputs = s.inputs := rfl
@[simp] theorem State.spend_cycles (s : State) (n : Nat) : (s.spend n).cycles = s.cycles + n := rfl
@[simp] theorem State.spend_busLog (s : State) (n : Nat) : (s.spend n).busLog = s.busLog := rfl

/-! ### `push16` -/

@[simp] theorem State.push16_a (s : State) (w : Word) : (s.push16 w).a = s.a := rfl
@[simp] theorem State.push16_f (s : State) (w : Word) : (s.push16 w).f = s.f := rfl
@[simp] theorem State.push16_b (s : State) (w : Word) : (s.push16 w).b = s.b := rfl
@[simp] theorem State.push16_c (s : State) (w : Word) : (s.push16 w).c = s.c := rfl
@[simp] theorem State.push16_d (s : State) (w : Word) : (s.push16 w).d = s.d := rfl
@[simp] theorem State.push16_e (s : State) (w : Word) : (s.push16 w).e = s.e := rfl
@[simp] theorem State.push16_h (s : State) (w : Word) : (s.push16 w).h = s.h := rfl
@[simp] theorem State.push16_l (s : State) (w : Word) : (s.push16 w).l = s.l := rfl
@[simp] theorem State.push16_sp (s : State) (w : Word) : (s.push16 w).sp = s.sp - 1 - 1 := rfl
@[simp] theorem State.push16_pc (s : State) (w : Word) : (s.push16 w).pc = s.pc := rfl
@[simp] theorem State.push16_ime (s : State) (w : Word) : (s.push16 w).ime = s.ime := rfl
@[simp] theorem State.push16_halted (s : State) (w : Word) : (s.push16 w).halted = s.halted := rfl
@[simp] theorem State.push16_stopped (s : State) (w : Word) : (s.push16 w).stopped = s.stopped := rfl
@[simp] theorem State.push16_haltBug (s : State) (w : Word) : (s.push16 w).haltBug = s.haltBug := rfl
@[simp] theorem State.push16_mem (s : State) (w : Word) : (s.push16 w).mem = (s.mem.write (s.sp - 1).toNat (hi w)).write (s.sp - 1 - 1).toNat (lo w) := rfl
@[simp] theorem State.push16_params (s : State) (w : Word) : (s.push16 w).params = s.params := rfl
@[simp] theorem State.push16_inputs (s : State) (w : Word) : (s.push16 w).inputs = s.inputs := rfl
@[simp] theorem State.push16_cycles (s : State) (w : Word) : (s.push16 w).cycles = s.cycles := rfl
@[simp] theorem State.push16_busLog (s : State) (w : Word) : (s.push16 w).busLog = .write (s.sp - 1 - 1) (lo w) :: .write (s.sp - 1) (hi w) :: s.busLog := rfl

/-! ### `pop16` -/

@[simp] theorem State.pop16_a (s : State) : (s.pop16.2).a = s.a := rfl
@[simp] theorem State.pop16_f (s : State) : (s.pop16.2).f = s.f := rfl
@[simp] theorem State.pop16_b (s : State) : (s.pop16.2).b = s.b := rfl
@[simp] theorem State.pop16_c (s : State) : (s.pop16.2).c = s.c := rfl
@[simp] theorem State.pop16_d (s : State) : (s.pop16.2).d = s.d := rfl
@[simp] theorem State.pop16_e (s : State) : (s.pop16.2).e = s.e := rfl
@[simp] theorem State.pop16_h (s : State) : (s.pop16.2).h = s.h := rfl
@[simp] theorem State.pop16_l (s : State) : (s.pop16.2).l = s.l := rfl
@[simp] theorem State.pop16_sp (s : State) : (s.pop16.2).sp = s.sp + 1 + 1 := rfl
@[simp] theorem State.pop16_pc (s : State) : (s.pop16.2).pc = s.pc := rfl
@[simp] theorem State.pop16_ime (s : State) : (s.pop16.2).ime = s.ime := rfl
@[simp] theorem State.pop16_halted (s : State) : (s.pop16.2).halted = s.halted := rfl
@[simp] theorem State.pop16_stopped (s : State) : (s.pop16.2).stopped = s.stopped := rfl
@[simp] theorem State.pop16_haltBug (s : State) : (s.pop16.2).haltBug = s.haltBug := rfl
@[simp] theorem State.pop16_mem (s : State) : (s.pop16.2).mem = s.mem := rfl
@[simp] theorem State.pop16_params (s : State) : (s.pop16.2).params = s.params := rfl
@[simp] theorem State.pop16_inputs (s : State) : (s.pop16.2).inputs = s.inputs := rfl
@[simp] theorem State.pop16_cycles (s : State) : (s.pop16.2).cycles = s.cycles := rfl

/-! ### `dropInput` -/

@[simp] theorem State.dropInput_a (s : State) : (s.dropInput).a = s.a := rfl
@[simp] theorem State.dropInput_f (s : State) : (s.dropInput).f = s.f := rfl
@[simp] theorem State.dropInput_b (s : State) : (s.dropInput).b = s.b := rfl
@[simp] theorem State.dropInput_c (s : State) : (s.dropInput).c = s.c := rfl
@[simp] theorem State.dropInput_d (s : State) : (s.dropInput).d = s.d := rfl
@[simp] theorem State.dropInput_e (s : State) : (s.dropInput).e = s.e := rfl
@[simp] theorem State.dropInput_h (s : State) : (s.dropInput).h = s.h := rfl
@[simp] theorem State.dropInput_l (s : State) : (s.dropInput).l = s.l := rfl
@[simp] theorem State.dropInput_sp (s : State) : (s.dropInput).sp = s.sp := rfl
@[simp] theorem State.dropInput_pc (s : State) : (s.dropInput).pc = s.pc := rfl
@[simp] theorem State.dropInput_ime (s : State) : (s.dropInput).ime = s.ime := rfl
@[simp] theorem State.dropInput_halted (s : State) : (s.dropInput).halted = s.halted := rfl
@[simp] theorem State.dropInput_stopped (s : State) : (s.dropInput).stopped = s.stopped := rfl
@[simp] theorem State.dropInput_haltBug (s : State) : (s.dropInput).haltBug = s.haltBug := rfl
@[simp] theorem State.dropInput_mem (s : State) : (s.dropInput).mem = s.mem := rfl
@[simp] theorem State.dropInput_params (s : State) : (s.dropInput).params = s.params := rfl
@[simp] theorem State.dropInput_inputs (s : State) : (s.dropInput).inputs = s.inputs.tail := rfl
@[simp] theorem State.dropInput_cycles (s : State) : (s.dropInput).cycles = s.cycles := rfl
@[simp] theorem State.dropInput_busLog (s : State) : (s.dropInput).busLog = s.busLog := rfl

/-! ### `wake` -/

@[simp] theorem State.wake_a (s : State) : (s.wake).a = s.a := rfl
@[simp] theorem State.wake_f (s : State) : (s.wake).f = s.f := rfl
@[simp] theorem State.wake_b (s : State) : (s.wake).b = s.b := rfl
@[simp] theorem State.wake_c (s : State) : (s.wake).c = s.c := rfl
@[simp] theorem State.wake_d (s : State) : (s.wake).d = s.d := rfl
@[simp] theorem State.wake_e (s : State) : (s.wake).e = s.e := rfl
@[simp] theorem State.wake_h (s : State) : (s.wake).h = s.h := rfl
@[simp] theorem State.wake_l (s : State) : (s.wake).l = s.l := rfl
@[simp] theorem State.wake_sp (s : State) : (s.wake).sp = s.sp := rfl
@[simp] theorem State.wake_pc (s : State) : (s.wake).pc = s.pc := rfl
@[simp] theorem State.wake_ime (s : State) : (s.wake).ime = s.ime := rfl
@[simp] theorem State.wake_halted (s : State) : (s.wake).halted = s.halted := rfl
@[simp] theorem State.wake_stopped (s : State) : (s.wake).stopped = false := rfl
@[simp] theorem State.wake_haltBug (s : State) : (s.wake).haltBug = s.haltBug := rfl
@[simp] theorem State.wake_mem (s : State) : (s.wake).mem = s.mem := rfl
@[simp] theorem State.wake_params (s : State) : (s.wake).params = s.params := rfl
@[simp] theorem State.wake_inputs (s : State) : (s.wake).inputs = s.inputs := rfl
@[simp] theorem State.wake_cycles (s : State) : (s.wake).cycles = s.cycles := rfl
@[simp] theorem State.wake_busLog (s : State) : (s.wake).busLog = s.busLog := rfl

/-! ### `stepEnd` -/

@[simp] theorem State.stepEnd_a (s : State) (i : Ime) (x : Byte) : (s.stepEnd i x).a = s.a := by unfold State.stepEnd; split <;> rfl
@[simp] theorem State.stepEnd_f (s : State) (i : Ime) (x : Byte) : (s.stepEnd i x).f = s.f := by unfold State.stepEnd; split <;> rfl
@[simp] theorem State.stepEnd_b (s : State) (i : Ime) (x : Byte) : (s.stepEnd i x).b = s.b := by unfold State.stepEnd; split <;> rfl
@[simp] theorem State.stepEnd_c (s : State) (i : Ime) (x : Byte) : (s.stepEnd i x).c = s.c := by unfold State.stepEnd; split <;> rfl
@[simp] theorem State.stepEnd_d (s : State) (i : Ime) (x : Byte) : (s.stepEnd i x).d = s.d := by unfold State.stepEnd; split <;> rfl
@[simp] theorem State.stepEnd_e (s : State) (i : Ime) (x : Byte) : (s.stepEnd i x).e = s.e := by unfold State.stepEnd; split <;> rfl
@[simp] theorem State.stepEnd_h (s : State) (i : Ime) (x : Byte) : (s.stepEnd i x).h = s.h := by unfold State.stepEnd; split <;> rfl
@[simp] theorem State.stepEnd_l (s : State) (i : Ime) (x : Byte) : (s.stepEnd i x).l = s.l := by unfold State.stepEnd; split <;> rfl
@[simp] theorem State.stepEnd_sp (s : State) (i : Ime) (x : Byte) : (s.stepEnd i x).sp = s.sp := by unfold State.stepEnd; split <;> rfl
@[simp] theorem State.stepEnd_pc (s : State) (i : Ime) (x : Byte) : (s.stepEnd i x).pc = s.pc := by unfold State.stepEnd; split <;> rfl
@[simp] theorem State.stepEnd_ime (s : State) (i : Ime) (x : Byte) : (s.stepEnd i x).ime = if i = .pending ∧ x ≠ 0xF3 then .enabled else s.ime := by unfold State.stepEnd; split <;> rfl
@[simp] theorem State.stepEnd_halted (s : State) (i : Ime) (x : Byte) : (s.stepEnd i x).halted = s.halted := by unfold State.stepEnd; split <;> rfl
@[simp] theorem State.stepEnd_stopped (s : State) (i : Ime) (x : Byte) : (s.stepEnd i x).stopped = s.stopped := by unfold State.stepEnd; split <;> rfl
@[simp] theorem State.stepEnd_haltBug (s : State) (i : Ime) (x : Byte) : (s.stepEnd i x).haltBug = s.haltBug := by unfold State.stepEnd; split <;> rfl
@[simp] theorem State.stepEnd_mem (s : State) (i : Ime) (x : Byte) : (s.stepEnd i x).mem = s.mem := by unfold State.stepEnd; split <;> rfl
@[simp] theorem State.stepEnd_params (s : State) (i : Ime) (x : Byte) : (s.stepEnd i x).params = s.params := by unfold State.stepEnd; split <;> rfl
@[simp] theorem State.stepEnd_inputs (s : State) (i : Ime) (x : Byte) : (s.stepEnd i x).inputs = s.inputs := by unfold State.stepEnd; split <;> rfl
@[simp] theorem State.stepEnd_cycles (s : State) (i : Ime) (x : Byte) : (s.stepEnd i x).cycles = s.cycles := by unfold State.stepEnd; split <;> rfl
@[simp] theorem State.stepEnd_busLog (s : State) (i : Ime) (x : Byte) : (s.stepEnd i x).busLog = s.busLog := by unfold State.stepEnd; split <;> rfl

/-! ### `readLoc` -/

@[simp] theorem State.readLoc_a (s : State) (x : Loc8) : ((s.readLoc x).2).a = s.a := by cases x <;> rfl
@[simp] theorem State.readLoc_f (s : State) (x : Loc8) : ((s.readLoc x).2).f = s.f := by cases x <;> rfl
@[simp] theorem State.readLoc_b (s : State) (x : Loc8) : ((s.readLoc x).2).b = s.b := by cases x <;> rfl
@[simp] theorem State.readLoc_c (s : State) (x : Loc8) : ((s.readLoc x).2).c = s.c := by cases x <;> rfl
@[simp] theorem State.readLoc_d (s : State) (x : Loc8) : ((s.readLoc x).2).d = s.d := by cases x <;> rfl
@[simp] theorem State.readLoc_e (s : State) (x : Loc8) : ((s.readLoc x).2).e = s.e := by cases x <;> rfl
@[simp] theorem State.readLoc_h (s : State) (x : Loc8) : ((s.readLoc x).2).h = s.h := by cases x <;> rfl
@[simp] theorem State.readLoc_l (s : State) (x : Loc8) : ((s.readLoc x).2).l = s.l := by cases x <;> rfl
@[simp] theorem State.readLoc_sp (s : State) (x : Loc8) : ((s.readLoc x).2).sp = s.sp := by cases x <;> rfl
@[simp] theorem State.readLoc_pc (s : State) (x : Loc8) : ((s.readLoc x).2).pc = s.pc := by cases x <;> rfl
@[simp] theorem State.readLoc_ime (s : State) (x : Loc8) : ((s.readLoc x).2).ime = s.ime := by cases x <;> rfl
@[simp] theorem State.readLoc_halted (s : State) (x : Loc8) : ((s.readLoc x).2).halted = s.halted := by cases x <;> rfl
@[simp] theorem State.readLoc_stopped (s : State) (x : Loc8) : ((s.readLoc x).2).stopped = s.stopped := by cases x <;> rfl
@[simp] theorem State.readLoc_haltBug (s : State) (x : Loc8) : ((s.readLoc x).2).haltBug = s.haltBug := by cases x <;> rfl
@[simp] theorem State.readLoc_mem (s : State) (x : Loc8) : ((s.readLoc x).2).mem = s.mem := by cases x <;> rfl
@[simp] theorem State.readLoc_params (s : State) (x : Loc8) : ((s.readLoc x).2).params = s.params := by cases x <;> rfl
@[simp] theorem State.readLoc_inputs (s : State) (x : Loc8) : ((s.readLoc x).2).inputs = s.inputs := by cases x <;> rfl
@[simp] theorem State.readLoc_cycles (s : State) (x : Loc8) : ((s.readLoc x).2).cycles = s.cycles := by cases x <;> rfl

/-! ### `readSrc` -/

@[simp] theorem State.readSrc_a (s : State) (x : AluSrc) : ((s.readSrc x).2).a = s.a := by cases x <;> rfl
@[simp] theorem State.readSrc_f (s : State) (x : AluSrc) : ((s.readSrc x).2).f = s.f := by cases x <;> rfl
@[simp] theorem State.readSrc_b (s : State) (x : AluSrc) : ((s.readSrc x).2).b = s.b := by cases x <;> rfl
@[simp] theorem State.readSrc_c (s : State) (x : AluSrc) : ((s.readSrc x).2).c = s.c := by cases x <;> rfl
@[simp] theorem State.readSrc_d (s : State) (x : AluSrc) : ((s.readSrc x).2).d = s.d := by cases x <;> rfl
@[simp] theorem State.readSrc_e (s : State) (x : AluSrc) : ((s.readSrc x).2).e = s.e := by cases x <;> rfl
@[simp] theorem State.readSrc_h (s : State) (x : AluSrc) : ((s.readSrc x).2).h = s.h := by cases x <;> rfl
@[simp] theorem State.readSrc_l (s : State) (x : AluSrc) : ((s.readSrc x).2).l = s.l := by cases x <;> rfl
@[simp] theorem State.readSrc_sp (s : State) (x : AluSrc) : ((s.readSrc x).2).sp = s.sp := by cases x <;> rfl
@[simp] theorem State.readSrc_pc (s : State) (x : AluSrc) : ((s.readSrc x).2).pc = s.pc := by cases x <;> rfl
@[simp] theorem State.readSrc_ime (s : State) (x : AluSrc) : ((s.readSrc x).2).ime = s.ime := by cases x <;> rfl
@[simp] theorem State.readSrc_halted (s : State) (x : AluSrc) : ((s.readSrc x).2).halted = s.halted := by cases x <;> rfl
@[simp] theorem State.readSrc_stopped (s : State) (x : AluSrc) : ((s.readSrc x).2).stopped = s.stopped := by cases x <;> rfl
@[simp] theorem State.readSrc_haltBug (s : State) (x : AluSrc) : ((s.readSrc x).2).haltBug = s.haltBug := by cases x <;> rfl
@[simp] theorem State.readSrc_mem (s : State) (x : AluSrc) : ((s.readSrc x).2).mem = s.mem := by cases x <;> rfl
@[simp] theorem State.readSrc_params (s : State) (x : AluSrc) : ((s.readSrc x).2).params = s.params := by cases x <;> rfl
@[simp] theorem State.readSrc_inputs (s : State) (x : AluSrc) : ((s.readSrc x).2).inputs = s.inputs := by cases x <;> rfl
@[simp] theorem State.readSrc_cycles (s : State) (x : AluSrc) : ((s.readSrc x).2).cycles = s.cycles := by cases x <;> rfl

/-! ### `writeLoc` -/

@[simp] theorem State.writeLoc_f (s : State) (x : Loc8) (v : Byte) : (s.writeLoc x v).f = s.f := by cases x with | mHL => rfl | reg r => cases r <;> rfl
@[simp] theorem State.writeLoc_sp (s : State) (x : Loc8) (v : Byte) : (s.writeLoc x v).sp = s.sp := by cases x with | mHL => rfl | reg r => cases r <;> rfl
@[simp] theorem State.writeLoc_pc (s : State) (x : Loc8) (v : Byte) : (s.writeLoc x v).pc = s.pc := by cases x with | mHL => rfl | reg r => cases r <;> rfl
@[simp] theorem State.writeLoc_ime (s : State) (x : Loc8) (v : Byte) : (s.writeLoc x v).ime = s.ime := by cases x with | mHL => rfl | reg r => cases r <;> rfl
@[simp] theorem State.writeLoc_halted (s : State) (x : Loc8) (v : Byte) : (s.writeLoc x v).halted = s.halted := by cases x with | mHL => rfl | reg r => cases r <;> rfl
@[simp] theorem State.writeLoc_stopped (s : State) (x : Loc8) (v : Byte) : (s.writeLoc x v).stopped = s.stopped := by cases x with | mHL => rfl | reg r => cases r <;> rfl
@[simp] theorem State.writeLoc_haltBug (s : State) (x : Loc8) (v : Byte) : (s.writeLoc x v).haltBug = s.haltBug := by cases x with | mHL => rfl | reg r => cases r <;> rfl
@[simp] theorem State.writeLoc_params (s : State) (x : Loc8) (v : Byte) : (s.writeLoc x v).params = s.params := by cases x with | mHL => rfl | reg r => cases r <;> rfl
@[simp] theorem State.writeLoc_inputs (s : State) (x : Loc8) (v : Byte) : (s.writeLoc x v).inputs = s.inputs := by cases x with | mHL => rfl | reg r => cases r <;> rfl
@[simp] theorem State.writeLoc_cycles (s : State) (x : Loc8) (v : Byte) : (s.writeLoc x v).cycles = s.cycles := by cases x with | mHL => rfl | reg r => cases r <;> rfl

/-! ### Registers read after a write -/

@[simp] theorem State.get8_set8_same (s : State) (r : Reg8) (v : Byte) : (s.set8 r v).get8 r = v := by cases r <;> rfl

theorem State.get8_set8_other (s : State) {q r : Reg8} (v : Byte) (h : q ≠ r) : (s.set8 r v).get8 q = s.get8 q := by
  cases q <;> cases r <;> first | rfl | exact absurd rfl h

@[simp] theorem State.busRead_fst (s : State) (x : Word) : (s.busRead x).1 = s.busValue x := rfl

@[simp] theorem State.busRead_snd (s : State) (x : Word) :
    (s.busRead x).2 = s.logAccess (.read x (s.busValue x)) := rfl

@[simp] theorem State.readLoc_reg (s : State) (r : Reg8) : s.readLoc (.reg r) = (s.get8 r, s) := rfl

@[simp] theorem State.readLoc_mHL (s : State) : s.readLoc .mHL = s.busRead s.hl := rfl

@[simp] theorem State.writeLoc_reg (s : State) (r : Reg8) (v : Byte) : s.writeLoc (.reg r) v = s.set8 r v := rfl

@[simp] theorem State.writeLoc_mHL (s : State) (v : Byte) : s.writeLoc .mHL v = s.busWrite s.hl v := rfl

@[simp] theorem State.readSrc_reg (s : State) (r : Reg8) : s.readSrc (.reg r) = (s.get8 r, s) := rfl

@[simp] theorem State.readSrc_mHL (s : State) : s.readSrc .mHL = s.busRead s.hl := rfl

@[simp] theorem State.readSrc_d8 (s : State) (n : Byte) : s.readSrc (.d8 n) = (n, s) := rfl

/-- On a FLAT bus a read gives the byte of memory. -/
theorem State.busValue_flat (s : State) (x : Word) (h : s.params.bus = .flat) : s.busValue x = s.mem.read x.toNat := by
  simp [State.busValue, h]

end Sys2Proof.Machine
end

