-- ==== Sys2Proof/Laws/Ops.lean ====
section
/-! SUPPORT. What each shared operation does, said once: words and bytes, flags, the bus, the stack, fetching, and the step. -/

namespace Sys2Proof.Machine

open Host (Outcome)

/-! ### Words and bytes -/

theorem hi_toNat (w : Word) : (hi w).toNat = w.toNat / 256 := by
  have := w.isLt
  simp only [hi, BitVec.toNat_ofNat]
  omega

theorem lo_toNat (w : Word) : (lo w).toNat = w.toNat % 256 := rfl

theorem cat_toNat (h l : Byte) : (cat h l).toNat = h.toNat * 256 + l.toNat := by
  have := h.isLt
  have := l.isLt
  simp only [cat, BitVec.toNat_ofNat]
  omega

@[simp] theorem cat_hi_lo (w : Word) : cat (hi w) (lo w) = w := by
  apply BitVec.eq_of_toNat_eq
  rw [cat_toNat, hi_toNat, lo_toNat]
  omega

@[simp] theorem hi_cat (h l : Byte) : hi (cat h l) = h := by
  apply BitVec.eq_of_toNat_eq
  rw [hi_toNat, cat_toNat]
  have := l.isLt
  omega

@[simp] theorem lo_cat (h l : Byte) : lo (cat h l) = l := by
  apply BitVec.eq_of_toNat_eq
  rw [lo_toNat, cat_toNat]
  have := l.isLt
  omega

theorem sext16_eq (e : Byte) : sext16 e = e.signExtend 16 := by
  revert e
  decide

theorem bitNat_le (b : Bool) : bitNat b ≤ 1 := by cases b <;> decide

/-! ### Flags -/

@[simp] theorem packFlags_z (z n h c : Bool) : (packFlags z n h c &&& 0xF0).getLsbD 7 = z := by
  revert z n h c; decide

@[simp] theorem packFlags_n (z n h c : Bool) : (packFlags z n h c &&& 0xF0).getLsbD 6 = n := by
  revert z n h c; decide

@[simp] theorem packFlags_h (z n h c : Bool) : (packFlags z n h c &&& 0xF0).getLsbD 5 = h := by
  revert z n h c; decide

@[simp] theorem packFlags_c (z n h c : Bool) : (packFlags z n h c &&& 0xF0).getLsbD 4 = c := by
  revert z n h c; decide

@[simp] theorem packFlags_bit7 (z n h c : Bool) : (packFlags z n h c)[7] = z := by revert z n h c; decide

@[simp] theorem packFlags_bit6 (z n h c : Bool) : (packFlags z n h c)[6] = n := by revert z n h c; decide

@[simp] theorem packFlags_bit5 (z n h c : Bool) : (packFlags z n h c)[5] = h := by revert z n h c; decide

@[simp] theorem packFlags_bit4 (z n h c : Bool) : (packFlags z n h c)[4] = c := by revert z n h c; decide

@[simp] theorem packFlags_masked (z n h c : Bool) : packFlags z n h c &&& 0xF0#8 = packFlags z n h c := by
  revert z n h c; decide

@[simp] theorem packFlags_low (z n h c : Bool) : packFlags z n h c &&& 0x0F#8 = 0#8 := by revert z n h c; decide

/-- A byte stored with `& 0xF0` has a zero low nibble. -/
@[simp] theorem masked_low (v : Byte) : v &&& 0xF0 &&& 0x0F = 0 := by
  revert v; decide

/-- A byte with a zero low nibble is not changed by `& 0xF0`. -/
theorem masked_of_low {v : Byte} : v &&& 0x0F = 0 → v &&& 0xF0 = v := by
  revert v; decide

theorem State.flagZ_eq (s : State) : s.flagZ = s.f.getLsbD 7 := by simp [State.flagZ, bit, State.readF]

theorem State.flagN_eq (s : State) : s.flagN = s.f.getLsbD 6 := by simp [State.flagN, bit, State.readF]

theorem State.flagH_eq (s : State) : s.flagH = s.f.getLsbD 5 := by simp [State.flagH, bit, State.readF]

theorem State.flagC_eq (s : State) : s.flagC = s.f.getLsbD 4 := by simp [State.flagC, bit, State.readF]

/-! ### The bus and the stack -/

/-- What a bus answers depends on the kind of bus, the storage, the time and the accesses made before, and on nothing else. -/
theorem State.busValue_congr {s t : State} (hp : t.params.bus = s.params.bus) (hm : t.mem = s.mem) (hc : t.cycles = s.cycles)
    (hl : t.busLog = s.busLog) (x : Word) : t.busValue x = s.busValue x := by
  simp only [State.busValue, hp, hm, hc, hl]

theorem State.push16_eq (s : State) (w : Word) :
    s.push16 w =
      { s with
        sp := s.sp - 2
        mem := (s.mem.write (s.sp - 1).toNat (hi w)).write (s.sp - 2).toNat (lo w)
        busLog := .write (s.sp - 2) (lo w) :: .write (s.sp - 1) (hi w) :: s.busLog } := by
  have h : s.sp - 1 - 1 = s.sp - 2 := by bv_omega
  simp only [State.push16, State.busWrite, h]

theorem State.pop16_eq (s : State) :
    s.pop16 =
      (cat ((s.logAccess (.read s.sp (s.busValue s.sp))).busValue (s.sp + 1)) (s.busValue s.sp),
       { s with
         sp := s.sp + 2
         busLog := .read (s.sp + 1) ((s.logAccess (.read s.sp (s.busValue s.sp))).busValue (s.sp + 1)) ::
           .read s.sp (s.busValue s.sp) :: s.busLog }) := by
  have h : s.sp + 1 + 1 = s.sp + 2 := by bv_omega
  simp only [State.pop16, State.busRead, State.logAccess, State.busValue, h]

/-! ### Fetching -/

/-- A fetch changes the record of accesses only: it adds one read for each byte. -/
theorem State.fetchFrom_state (n : Nat) : ∀ (s : State) (i : Nat),
    ∃ acc, acc.length = n ∧ (∀ x ∈ acc, ∃ a v, x = BusAccess.read a v) ∧
      (s.fetchFrom i n).2 = { s with busLog := acc ++ s.busLog } := by
  induction n with
  | zero => exact fun s _ => ⟨[], rfl, by simp, rfl⟩
  | succ n ih =>
    intro s i
    obtain ⟨acc, hl, hr, hs⟩ := ih (s.fetch i).2 (i + 1)
    refine ⟨acc ++ [.read (s.fetchAddr i) (s.busValue (s.fetchAddr i))], by simp [hl], ?_, ?_⟩
    · intro x hx
      rcases List.mem_append.mp hx with h | h
      · exact hr x h
      · exact ⟨_, _, List.mem_singleton.mp h⟩
    · show ((s.fetch i).2.fetchFrom (i + 1) n).2 = _
      rw [hs]
      simp [State.fetch, State.busRead, State.logAccess]

theorem State.fetchFrom_length (n : Nat) : ∀ (s : State) (i : Nat), (s.fetchFrom i n).1.length = n := by
  induction n with
  | zero => exact fun _ _ => rfl
  | succ n ih => exact fun s i => congrArg (· + 1) (ih _ _)

/-- Fetching an instruction is fetching its first byte and then its operand bytes. -/
theorem fetchInstr_state (s : State) :
    (fetchInstr s).state = (s.fetchFrom 0 ((unprefixed (s.busValue s.pc)).operandBytes + 1)).2 := by
  have h : s.fetchAddr 0 = s.pc := by simp [State.fetchAddr]
  simp [fetchInstr, State.fetchFrom, State.fetch, State.busRead, h]

/-- The first byte fetched is the bus's answer at PC. -/
theorem fetchInstr_b0 (s : State) : (fetchInstr s).b0 = s.busValue s.pc := by
  have h : s.fetchAddr 0 = s.pc := by simp [State.fetchAddr]
  simp [fetchInstr, State.fetch, State.busRead, h]

/-- Splitting a list at its length. -/
theorem splitBytes_self (ops rest : List Byte) : splitBytes ops.length (ops ++ rest) = some (ops, rest) := by
  induction ops with
  | nil => rfl
  | cons b bs ih => simp [splitBytes, ih]

/-- What splitting off gives: the parts make up the list, and the first has the length asked for. -/
theorem splitBytes_some {n : Nat} {bs ops rest : List Byte} (h : splitBytes n bs = some (ops, rest)) :
    bs = ops ++ rest ∧ ops.length = n := by
  induction n generalizing bs ops rest with
  | zero =>
    simp only [splitBytes, Option.some.injEq, Prod.mk.injEq] at h
    obtain ⟨rfl, rfl⟩ := h
    exact ⟨rfl, rfl⟩
  | succ n ih =>
    cases bs with
    | nil => simp [splitBytes] at h
    | cons b bs =>
      simp only [splitBytes, Option.map_eq_some_iff] at h
      obtain ⟨⟨o, r⟩, hs, he⟩ := h
      obtain ⟨rfl, hl⟩ := ih hs
      simp only [Prod.mk.injEq] at he
      obtain ⟨rfl, rfl⟩ := he
      exact ⟨rfl, by simp [hl]⟩

/-- Splitting fails exactly where there are too few bytes. -/
theorem splitBytes_none {n : Nat} {bs : List Byte} : splitBytes n bs = none ↔ bs.length < n := by
  induction n generalizing bs with
  | zero => simp [splitBytes]
  | succ n ih =>
    cases bs with
    | nil => simp [splitBytes]
    | cons b bs => simp [splitBytes, ih]

/-- Decoding a byte and exactly as many operand bytes as its entry takes. -/
theorem decode_exact {b0 : Byte} {ops : List Byte} (rest : List Byte) (h : ops.length = (unprefixed b0).operandBytes) :
    decode (b0 :: (ops ++ rest)) = .ok ((unprefixed b0).instr b0 (pick 0 ops 0) (pick 0 ops 1), rest) := by
  simp only [decode, ← h, splitBytes_self]

/-! ### The step -/

@[simp] theorem endTurn_next (s : State) : endTurn (.next s) = .next s.dropInput := rfl

@[simp] theorem endTurn_invalidOpcode (b : Byte) (p : Bool) (s : State) :
    endTurn (.fault (.invalidOpcode b p s)) = .fault (.invalidOpcode b p s.dropInput) := rfl

/-- A turn goes on exactly where what it did goes on, and its state is then that one with the input used up. -/
theorem endTurn_eq_next {o : Out} {t : State} : endTurn o = .next t ↔ ∃ u, o = .next u ∧ t = u.dropInput := by
  rcases o with u | r | r
  · simp [eq_comm]
  · cases r <;> simp [endTurn]
  · simp [endTurn]

/-- An instruction step goes on exactly where its instruction does, and StepEnd is then applied. -/
theorem mapNext_eq_next {g : State → State} {o : Out} {t : State} : mapNext g o = .next t ↔ ∃ u, o = .next u ∧ t = g u := by
  cases o <;> simp [mapNext, eq_comm]

/-- How a step that goes on came about: an interrupt entry, a stopped or a halted M-cycle, or an executed instruction. -/
theorem step_cases {s t : State} (h : step s = .next t) :
    ((s.ime = .enabled ∧ s.irqPending = true) ∧
      ∃ u, serviceInterrupt s.wakeIfAsked s.input.vector = .next u ∧ t = u.dropInput) ∨
    (¬ (s.ime = .enabled ∧ s.irqPending = true) ∧ s.wakeIfAsked.stopped = true ∧ t = (s.wakeIfAsked.spend 1).dropInput) ∨
    (¬ (s.ime = .enabled ∧ s.irqPending = true) ∧ s.wakeIfAsked.stopped = false ∧ s.halted = true ∧
      t = ((({ s.wakeIfAsked with halted := !s.irqPending } : State).spend 1).dropInput)) ∨
    (¬ (s.ime = .enabled ∧ s.irqPending = true) ∧ s.wakeIfAsked.stopped = false ∧ s.halted = false ∧
      ∃ u, exec (fetchInstr s.wakeIfAsked).instr (fetchInstr s.wakeIfAsked).state = .next u ∧
        t = (u.stepEnd s.ime (s.busValue s.pc)).dropInput) := by
  have hi : s.wakeIfAsked.ime = s.ime := by unfold State.wakeIfAsked; split <;> rfl
  have hn : s.wakeIfAsked.inputs = s.inputs := by unfold State.wakeIfAsked; split <;> rfl
  have hh : s.wakeIfAsked.halted = s.halted := by unfold State.wakeIfAsked; split <;> rfl
  have hin : s.wakeIfAsked.input = s.input := by simp [State.input, hn]
  have hq : s.wakeIfAsked.irqPending = s.irqPending := by simp [State.irqPending, hin]
  have hb : s.wakeIfAsked.busValue s.wakeIfAsked.pc = s.busValue s.pc := by unfold State.wakeIfAsked; split <;> rfl
  simp only [step, boundary, hi, hq, hin] at h
  by_cases hs : s.ime = .enabled ∧ s.irqPending = true
  · rw [if_pos hs] at h
    exact .inl ⟨hs, endTurn_eq_next.mp h⟩
  · rw [if_neg hs] at h
    refine .inr ?_
    simp only [coreStep, hh, hq] at h
    by_cases h1 : s.wakeIfAsked.stopped = true
    · rw [if_pos h1] at h
      cases h
      exact .inl ⟨hs, h1, rfl⟩
    · rw [if_neg h1] at h
      refine .inr ?_
      by_cases h2 : s.halted = true
      · rw [if_pos h2] at h
        cases h
        exact .inl ⟨hs, by simpa using h1, h2, rfl⟩
      · rw [if_neg h2] at h
        refine .inr ⟨hs, by simpa using h1, by simpa using h2, ?_⟩
        simp only [instrStep, hi, fetchInstr_b0, hb] at h
        obtain ⟨u, hu, rfl⟩ := endTurn_eq_next.mp h
        obtain ⟨w, hw, rfl⟩ := mapNext_eq_next.mp hu
        exact ⟨w, hw, rfl⟩

/-! ### The boundary -/

@[simp] theorem State.wakeIfAsked_a (s : State) : s.wakeIfAsked.a = s.a := by unfold State.wakeIfAsked; split <;> rfl
@[simp] theorem State.wakeIfAsked_f (s : State) : s.wakeIfAsked.f = s.f := by unfold State.wakeIfAsked; split <;> rfl
@[simp] theorem State.wakeIfAsked_b (s : State) : s.wakeIfAsked.b = s.b := by unfold State.wakeIfAsked; split <;> rfl
@[simp] theorem State.wakeIfAsked_c (s : State) : s.wakeIfAsked.c = s.c := by unfold State.wakeIfAsked; split <;> rfl
@[simp] theorem State.wakeIfAsked_d (s : State) : s.wakeIfAsked.d = s.d := by unfold State.wakeIfAsked; split <;> rfl
@[simp] theorem State.wakeIfAsked_e (s : State) : s.wakeIfAsked.e = s.e := by unfold State.wakeIfAsked; split <;> rfl
@[simp] theorem State.wakeIfAsked_h (s : State) : s.wakeIfAsked.h = s.h := by unfold State.wakeIfAsked; split <;> rfl
@[simp] theorem State.wakeIfAsked_l (s : State) : s.wakeIfAsked.l = s.l := by unfold State.wakeIfAsked; split <;> rfl
@[simp] theorem State.wakeIfAsked_sp (s : State) : s.wakeIfAsked.sp = s.sp := by unfold State.wakeIfAsked; split <;> rfl
@[simp] theorem State.wakeIfAsked_pc (s : State) : s.wakeIfAsked.pc = s.pc := by unfold State.wakeIfAsked; split <;> rfl
@[simp] theorem State.wakeIfAsked_ime (s : State) : s.wakeIfAsked.ime = s.ime := by unfold State.wakeIfAsked; split <;> rfl
@[simp] theorem State.wakeIfAsked_halted (s : State) : s.wakeIfAsked.halted = s.halted := by unfold State.wakeIfAsked; split <;> rfl
@[simp] theorem State.wakeIfAsked_haltBug (s : State) : s.wakeIfAsked.haltBug = s.haltBug := by unfold State.wakeIfAsked; split <;> rfl
@[simp] theorem State.wakeIfAsked_mem (s : State) : s.wakeIfAsked.mem = s.mem := by unfold State.wakeIfAsked; split <;> rfl
@[simp] theorem State.wakeIfAsked_params (s : State) : s.wakeIfAsked.params = s.params := by unfold State.wakeIfAsked; split <;> rfl
@[simp] theorem State.wakeIfAsked_inputs (s : State) : s.wakeIfAsked.inputs = s.inputs := by unfold State.wakeIfAsked; split <;> rfl
@[simp] theorem State.wakeIfAsked_cycles (s : State) : s.wakeIfAsked.cycles = s.cycles := by unfold State.wakeIfAsked; split <;> rfl
@[simp] theorem State.wakeIfAsked_busLog (s : State) : s.wakeIfAsked.busLog = s.busLog := by unfold State.wakeIfAsked; split <;> rfl

@[simp] theorem State.wakeIfAsked_input (s : State) : s.wakeIfAsked.input = s.input := by simp [State.input]

@[simp] theorem State.wakeIfAsked_irqPending (s : State) : s.wakeIfAsked.irqPending = s.irqPending := by simp [State.irqPending]

@[simp] theorem State.wakeIfAsked_busValue (s : State) (x : Word) : s.wakeIfAsked.busValue x = s.busValue x :=
  State.busValue_congr (by simp) (by simp) (by simp) (by simp) x

/-- A step that executes an instruction is the fetch, the instruction, StepEnd, and the input used up. -/
theorem step_executes {s : State} (h1 : s.wakeIfAsked.stopped = false) (h2 : s.halted = false)
    (h3 : ¬ (s.ime = .enabled ∧ s.irqPending = true)) :
    step s = endTurn (mapNext (fun t => t.stepEnd s.ime (s.busValue s.pc))
      (exec (fetchInstr s.wakeIfAsked).instr (fetchInstr s.wakeIfAsked).state)) := by
  simp only [step, boundary, State.wakeIfAsked_ime, State.wakeIfAsked_irqPending, if_neg h3, coreStep, h1,
    State.wakeIfAsked_halted, h2, instrStep, fetchInstr_b0, State.wakeIfAsked_busValue, State.wakeIfAsked_pc]
  rfl

/-- The instruction fetched is the entry of the byte at PC. -/
theorem fetchInstr_instr (s : State) :
    ∃ b1 b2, (fetchInstr s).instr = (unprefixed (s.busValue s.pc)).instr (s.busValue s.pc) b1 b2 := by
  have h : s.fetchAddr 0 = s.pc := by simp [State.fetchAddr]
  simp only [fetchInstr, State.fetch, State.busRead, h]
  exact ⟨_, _, rfl⟩

/-- An invalid byte at PC is fetched alone, by one read. -/
theorem fetchInstr_invalid {s : State} (h : unprefixed (s.busValue s.pc) = .bad) :
    (fetchInstr s).instr = .invalid (s.busValue s.pc) ∧
      (fetchInstr s).state = s.logAccess (.read s.pc (s.busValue s.pc)) := by
  have h0 : s.fetchAddr 0 = s.pc := by simp [State.fetchAddr]
  simp only [fetchInstr, State.fetch, State.busRead, h0, h]
  exact ⟨rfl, rfl⟩

/-- The step on an invalid byte reports it and leaves the state as it is, but for the record of the one read (R401, R79). -/
theorem coreStep_invalid {s : State} (h1 : s.stopped = false) (h2 : s.halted = false)
    (h3 : unprefixed (s.busValue s.pc) = .bad) :
    coreStep s =
      .fault (.invalidOpcode (s.busValue s.pc) false (s.logAccess (.read s.pc (s.busValue s.pc)))) := by
  obtain ⟨hi, hs⟩ := fetchInstr_invalid h3
  simp only [coreStep, h1, h2, instrStep, hi, hs, Bool.false_eq_true, if_false]
  rfl

/-- Fetching an instruction changes the record of accesses only, by at most three reads. -/
theorem fetchInstr_reads (s : State) :
    ∃ acc, acc.length ≤ 3 ∧ (∀ x ∈ acc, ∃ a v, x = BusAccess.read a v) ∧
      (fetchInstr s).state = { s with busLog := acc ++ s.busLog } := by
  obtain ⟨acc, hl, hr, hs⟩ := State.fetchFrom_state ((unprefixed (s.busValue s.pc)).operandBytes + 1) s 0
  refine ⟨acc, ?_, hr, by rw [fetchInstr_state, hs]⟩
  rw [hl]
  cases unprefixed (s.busValue s.pc) <;> simp [Entry.operandBytes]

/-! ### The instructions with a choice inside -/

/-- HALT, said in one record. -/
theorem exec_halt_eq (s : State) :
    exec .halt s =
      .next { s with
        pc := s.nextPC 1
        halted := s.halted || !s.irqPending
        haltBug := s.irqPending && decide (s.ime ≠ .enabled)
        cycles := s.cycles + 1 } := by
  show exec_halt s = _
  simp only [exec_halt, haltCore, State.advance, State.writePC, State.spend]
  cases hq : s.irqPending <;> cases s.ime <;> simp

/-- EI, said in one record. -/
theorem exec_ei_eq (s : State) :
    exec .ei s =
      .next { s with
        pc := s.nextPC 1
        ime := if s.ime = .enabled then .enabled else .pending
        haltBug := false
        cycles := s.cycles + 1 } := by
  show exec_ei s = _
  simp only [exec_ei, enableIme, State.advance, State.writePC, State.spend]
  cases hi : s.ime <;> simp [hi, State.nextPC]

/-- An interrupt that may be serviced, said in one record. -/
theorem serviceInterrupt_eq {s : State} (v : Word) (h : s.ime = .enabled) :
    serviceInterrupt s v =
      .next { s with
        sp := s.sp - 2
        pc := v
        ime := .disabled
        halted := false
        haltBug := false
        mem := (s.mem.write (s.sp - 1).toNat (hi s.interruptReturn)).write (s.sp - 2).toNat (lo s.interruptReturn)
        cycles := s.cycles + 5
        busLog := .write (s.sp - 2) (lo s.interruptReturn) :: .write (s.sp - 1) (hi s.interruptReturn) :: s.busLog } := by
  simp only [serviceInterrupt, if_pos h, State.push16_eq, State.spend]

end Sys2Proof.Machine
end

