-- ==== Sys2Proof/Laws/PerInstr.lean ====
section
/-! SUPPORT. Per instruction, as syntax: the first byte of its encoding fixes how many bytes it has (R101). -/

namespace Sys2Proof.Laws.EncodedLength

/-- The encoding of a well-formed instruction is its first byte and the operand bytes that byte's entry of the opcode map takes. -/
def Statement (i : Instr) : Prop :=
  i.wellFormed = true → (encode i).length = (unprefixed ((encode i).headD 0)).operandBytes + 1

theorem of_head {i : Instr} (b0 : Byte) (ops : List Byte) (h : encode i = b0 :: ops)
    (hl : ops.length = (unprefixed b0).operandBytes) : Statement i := fun _ => by
  rw [h]
  exact congrArg (· + 1) hl

/-- The statement of an invalid opcode, for each of the 11. -/
theorem of_invalid : ∀ op ∈ invalid11, (unprefixed op).operandBytes = 0 := by decide

theorem nop : Statement (.nop) := of_head 0x00 [] rfl rfl
theorem ld_BC_d16 (nn : Word) : Statement (.ld_BC_d16 nn) := of_head 0x01 [(Machine.lo nn), (Machine.hi nn)] rfl rfl
theorem ld_mBC_A : Statement (.ld_mBC_A) := of_head 0x02 [] rfl rfl
theorem inc_BC : Statement (.inc_BC) := of_head 0x03 [] rfl rfl
theorem inc_B : Statement (.inc_B) := of_head 0x04 [] rfl rfl
theorem dec_B : Statement (.dec_B) := of_head 0x05 [] rfl rfl
theorem ld_B_d8 (n : Byte) : Statement (.ld_B_d8 n) := of_head 0x06 [n] rfl rfl
theorem rlca : Statement (.rlca) := of_head 0x07 [] rfl rfl
theorem ld_ma16_SP (nn : Word) : Statement (.ld_ma16_SP nn) := of_head 0x08 [(Machine.lo nn), (Machine.hi nn)] rfl rfl
theorem add_HL_BC : Statement (.add_HL_BC) := of_head 0x09 [] rfl rfl
theorem ld_A_mBC : Statement (.ld_A_mBC) := of_head 0x0A [] rfl rfl
theorem dec_BC : Statement (.dec_BC) := of_head 0x0B [] rfl rfl
theorem inc_C : Statement (.inc_C) := of_head 0x0C [] rfl rfl
theorem dec_C : Statement (.dec_C) := of_head 0x0D [] rfl rfl
theorem ld_C_d8 (n : Byte) : Statement (.ld_C_d8 n) := of_head 0x0E [n] rfl rfl
theorem rrca : Statement (.rrca) := of_head 0x0F [] rfl rfl
theorem stop (n : Byte) : Statement (.stop n) := of_head 0x10 [n] rfl rfl
theorem ld_DE_d16 (nn : Word) : Statement (.ld_DE_d16 nn) := of_head 0x11 [(Machine.lo nn), (Machine.hi nn)] rfl rfl
theorem ld_mDE_A : Statement (.ld_mDE_A) := of_head 0x12 [] rfl rfl
theorem inc_DE : Statement (.inc_DE) := of_head 0x13 [] rfl rfl
theorem inc_D : Statement (.inc_D) := of_head 0x14 [] rfl rfl
theorem dec_D : Statement (.dec_D) := of_head 0x15 [] rfl rfl
theorem ld_D_d8 (n : Byte) : Statement (.ld_D_d8 n) := of_head 0x16 [n] rfl rfl
theorem rla : Statement (.rla) := of_head 0x17 [] rfl rfl
theorem jr_e8 (e : Byte) : Statement (.jr_e8 e) := of_head 0x18 [e] rfl rfl
theorem add_HL_DE : Statement (.add_HL_DE) := of_head 0x19 [] rfl rfl
theorem ld_A_mDE : Statement (.ld_A_mDE) := of_head 0x1A [] rfl rfl
theorem dec_DE : Statement (.dec_DE) := of_head 0x1B [] rfl rfl
theorem inc_E : Statement (.inc_E) := of_head 0x1C [] rfl rfl
theorem dec_E : Statement (.dec_E) := of_head 0x1D [] rfl rfl
theorem ld_E_d8 (n : Byte) : Statement (.ld_E_d8 n) := of_head 0x1E [n] rfl rfl
theorem rra : Statement (.rra) := of_head 0x1F [] rfl rfl
theorem jr_NZ_e8 (e : Byte) : Statement (.jr_NZ_e8 e) := of_head 0x20 [e] rfl rfl
theorem ld_HL_d16 (nn : Word) : Statement (.ld_HL_d16 nn) := of_head 0x21 [(Machine.lo nn), (Machine.hi nn)] rfl rfl
theorem ld_mHLinc_A : Statement (.ld_mHLinc_A) := of_head 0x22 [] rfl rfl
theorem inc_HL : Statement (.inc_HL) := of_head 0x23 [] rfl rfl
theorem inc_H : Statement (.inc_H) := of_head 0x24 [] rfl rfl
theorem dec_H : Statement (.dec_H) := of_head 0x25 [] rfl rfl
theorem ld_H_d8 (n : Byte) : Statement (.ld_H_d8 n) := of_head 0x26 [n] rfl rfl
theorem daa : Statement (.daa) := of_head 0x27 [] rfl rfl
theorem jr_Z_e8 (e : Byte) : Statement (.jr_Z_e8 e) := of_head 0x28 [e] rfl rfl
theorem add_HL_HL : Statement (.add_HL_HL) := of_head 0x29 [] rfl rfl
theorem ld_A_mHLinc : Statement (.ld_A_mHLinc) := of_head 0x2A [] rfl rfl
theorem dec_HL : Statement (.dec_HL) := of_head 0x2B [] rfl rfl
theorem inc_L : Statement (.inc_L) := of_head 0x2C [] rfl rfl
theorem dec_L : Statement (.dec_L) := of_head 0x2D [] rfl rfl
theorem ld_L_d8 (n : Byte) : Statement (.ld_L_d8 n) := of_head 0x2E [n] rfl rfl
theorem cpl : Statement (.cpl) := of_head 0x2F [] rfl rfl
theorem jr_NC_e8 (e : Byte) : Statement (.jr_NC_e8 e) := of_head 0x30 [e] rfl rfl
theorem ld_SP_d16 (nn : Word) : Statement (.ld_SP_d16 nn) := of_head 0x31 [(Machine.lo nn), (Machine.hi nn)] rfl rfl
theorem ld_mHLdec_A : Statement (.ld_mHLdec_A) := of_head 0x32 [] rfl rfl
theorem inc_SP : Statement (.inc_SP) := of_head 0x33 [] rfl rfl
theorem inc_mHL : Statement (.inc_mHL) := of_head 0x34 [] rfl rfl
theorem dec_mHL : Statement (.dec_mHL) := of_head 0x35 [] rfl rfl
theorem ld_mHL_d8 (n : Byte) : Statement (.ld_mHL_d8 n) := of_head 0x36 [n] rfl rfl
theorem scf : Statement (.scf) := of_head 0x37 [] rfl rfl
theorem jr_C_e8 (e : Byte) : Statement (.jr_C_e8 e) := of_head 0x38 [e] rfl rfl
theorem add_HL_SP : Statement (.add_HL_SP) := of_head 0x39 [] rfl rfl
theorem ld_A_mHLdec : Statement (.ld_A_mHLdec) := of_head 0x3A [] rfl rfl
theorem dec_SP : Statement (.dec_SP) := of_head 0x3B [] rfl rfl
theorem inc_A : Statement (.inc_A) := of_head 0x3C [] rfl rfl
theorem dec_A : Statement (.dec_A) := of_head 0x3D [] rfl rfl
theorem ld_A_d8 (n : Byte) : Statement (.ld_A_d8 n) := of_head 0x3E [n] rfl rfl
theorem ccf : Statement (.ccf) := of_head 0x3F [] rfl rfl
theorem ld_B_B : Statement (.ld_B_B) := of_head 0x40 [] rfl rfl
theorem ld_B_C : Statement (.ld_B_C) := of_head 0x41 [] rfl rfl
theorem ld_B_D : Statement (.ld_B_D) := of_head 0x42 [] rfl rfl
theorem ld_B_E : Statement (.ld_B_E) := of_head 0x43 [] rfl rfl
theorem ld_B_H : Statement (.ld_B_H) := of_head 0x44 [] rfl rfl
theorem ld_B_L : Statement (.ld_B_L) := of_head 0x45 [] rfl rfl
theorem ld_B_mHL : Statement (.ld_B_mHL) := of_head 0x46 [] rfl rfl
theorem ld_B_A : Statement (.ld_B_A) := of_head 0x47 [] rfl rfl
theorem ld_C_B : Statement (.ld_C_B) := of_head 0x48 [] rfl rfl
theorem ld_C_C : Statement (.ld_C_C) := of_head 0x49 [] rfl rfl
theorem ld_C_D : Statement (.ld_C_D) := of_head 0x4A [] rfl rfl
theorem ld_C_E : Statement (.ld_C_E) := of_head 0x4B [] rfl rfl
theorem ld_C_H : Statement (.ld_C_H) := of_head 0x4C [] rfl rfl
theorem ld_C_L : Statement (.ld_C_L) := of_head 0x4D [] rfl rfl
theorem ld_C_mHL : Statement (.ld_C_mHL) := of_head 0x4E [] rfl rfl
theorem ld_C_A : Statement (.ld_C_A) := of_head 0x4F [] rfl rfl
theorem ld_D_B : Statement (.ld_D_B) := of_head 0x50 [] rfl rfl
theorem ld_D_C : Statement (.ld_D_C) := of_head 0x51 [] rfl rfl
theorem ld_D_D : Statement (.ld_D_D) := of_head 0x52 [] rfl rfl
theorem ld_D_E : Statement (.ld_D_E) := of_head 0x53 [] rfl rfl
theorem ld_D_H : Statement (.ld_D_H) := of_head 0x54 [] rfl rfl
theorem ld_D_L : Statement (.ld_D_L) := of_head 0x55 [] rfl rfl
theorem ld_D_mHL : Statement (.ld_D_mHL) := of_head 0x56 [] rfl rfl
theorem ld_D_A : Statement (.ld_D_A) := of_head 0x57 [] rfl rfl
theorem ld_E_B : Statement (.ld_E_B) := of_head 0x58 [] rfl rfl
theorem ld_E_C : Statement (.ld_E_C) := of_head 0x59 [] rfl rfl
theorem ld_E_D : Statement (.ld_E_D) := of_head 0x5A [] rfl rfl
theorem ld_E_E : Statement (.ld_E_E) := of_head 0x5B [] rfl rfl
theorem ld_E_H : Statement (.ld_E_H) := of_head 0x5C [] rfl rfl
theorem ld_E_L : Statement (.ld_E_L) := of_head 0x5D [] rfl rfl
theorem ld_E_mHL : Statement (.ld_E_mHL) := of_head 0x5E [] rfl rfl
theorem ld_E_A : Statement (.ld_E_A) := of_head 0x5F [] rfl rfl
theorem ld_H_B : Statement (.ld_H_B) := of_head 0x60 [] rfl rfl
theorem ld_H_C : Statement (.ld_H_C) := of_head 0x61 [] rfl rfl
theorem ld_H_D : Statement (.ld_H_D) := of_head 0x62 [] rfl rfl
theorem ld_H_E : Statement (.ld_H_E) := of_head 0x63 [] rfl rfl
theorem ld_H_H : Statement (.ld_H_H) := of_head 0x64 [] rfl rfl
theorem ld_H_L : Statement (.ld_H_L) := of_head 0x65 [] rfl rfl
theorem ld_H_mHL : Statement (.ld_H_mHL) := of_head 0x66 [] rfl rfl
theorem ld_H_A : Statement (.ld_H_A) := of_head 0x67 [] rfl rfl
theorem ld_L_B : Statement (.ld_L_B) := of_head 0x68 [] rfl rfl
theorem ld_L_C : Statement (.ld_L_C) := of_head 0x69 [] rfl rfl
theorem ld_L_D : Statement (.ld_L_D) := of_head 0x6A [] rfl rfl
theorem ld_L_E : Statement (.ld_L_E) := of_head 0x6B [] rfl rfl
theorem ld_L_H : Statement (.ld_L_H) := of_head 0x6C [] rfl rfl
theorem ld_L_L : Statement (.ld_L_L) := of_head 0x6D [] rfl rfl
theorem ld_L_mHL : Statement (.ld_L_mHL) := of_head 0x6E [] rfl rfl
theorem ld_L_A : Statement (.ld_L_A) := of_head 0x6F [] rfl rfl
theorem ld_mHL_B : Statement (.ld_mHL_B) := of_head 0x70 [] rfl rfl
theorem ld_mHL_C : Statement (.ld_mHL_C) := of_head 0x71 [] rfl rfl
theorem ld_mHL_D : Statement (.ld_mHL_D) := of_head 0x72 [] rfl rfl
theorem ld_mHL_E : Statement (.ld_mHL_E) := of_head 0x73 [] rfl rfl
theorem ld_mHL_H : Statement (.ld_mHL_H) := of_head 0x74 [] rfl rfl
theorem ld_mHL_L : Statement (.ld_mHL_L) := of_head 0x75 [] rfl rfl
theorem halt : Statement (.halt) := of_head 0x76 [] rfl rfl
theorem ld_mHL_A : Statement (.ld_mHL_A) := of_head 0x77 [] rfl rfl
theorem ld_A_B : Statement (.ld_A_B) := of_head 0x78 [] rfl rfl
theorem ld_A_C : Statement (.ld_A_C) := of_head 0x79 [] rfl rfl
theorem ld_A_D : Statement (.ld_A_D) := of_head 0x7A [] rfl rfl
theorem ld_A_E : Statement (.ld_A_E) := of_head 0x7B [] rfl rfl
theorem ld_A_H : Statement (.ld_A_H) := of_head 0x7C [] rfl rfl
theorem ld_A_L : Statement (.ld_A_L) := of_head 0x7D [] rfl rfl
theorem ld_A_mHL : Statement (.ld_A_mHL) := of_head 0x7E [] rfl rfl
theorem ld_A_A : Statement (.ld_A_A) := of_head 0x7F [] rfl rfl
theorem add_A_B : Statement (.add_A_B) := of_head 0x80 [] rfl rfl
theorem add_A_C : Statement (.add_A_C) := of_head 0x81 [] rfl rfl
theorem add_A_D : Statement (.add_A_D) := of_head 0x82 [] rfl rfl
theorem add_A_E : Statement (.add_A_E) := of_head 0x83 [] rfl rfl
theorem add_A_H : Statement (.add_A_H) := of_head 0x84 [] rfl rfl
theorem add_A_L : Statement (.add_A_L) := of_head 0x85 [] rfl rfl
theorem add_A_mHL : Statement (.add_A_mHL) := of_head 0x86 [] rfl rfl
theorem add_A_A : Statement (.add_A_A) := of_head 0x87 [] rfl rfl
theorem adc_A_B : Statement (.adc_A_B) := of_head 0x88 [] rfl rfl
theorem adc_A_C : Statement (.adc_A_C) := of_head 0x89 [] rfl rfl
theorem adc_A_D : Statement (.adc_A_D) := of_head 0x8A [] rfl rfl
theorem adc_A_E : Statement (.adc_A_E) := of_head 0x8B [] rfl rfl
theorem adc_A_H : Statement (.adc_A_H) := of_head 0x8C [] rfl rfl
theorem adc_A_L : Statement (.adc_A_L) := of_head 0x8D [] rfl rfl
theorem adc_A_mHL : Statement (.adc_A_mHL) := of_head 0x8E [] rfl rfl
theorem adc_A_A : Statement (.adc_A_A) := of_head 0x8F [] rfl rfl
theorem sub_B : Statement (.sub_B) := of_head 0x90 [] rfl rfl
theorem sub_C : Statement (.sub_C) := of_head 0x91 [] rfl rfl
theorem sub_D : Statement (.sub_D) := of_head 0x92 [] rfl rfl
theorem sub_E : Statement (.sub_E) := of_head 0x93 [] rfl rfl
theorem sub_H : Statement (.sub_H) := of_head 0x94 [] rfl rfl
theorem sub_L : Statement (.sub_L) := of_head 0x95 [] rfl rfl
theorem sub_mHL : Statement (.sub_mHL) := of_head 0x96 [] rfl rfl
theorem sub_A : Statement (.sub_A) := of_head 0x97 [] rfl rfl
theorem sbc_A_B : Statement (.sbc_A_B) := of_head 0x98 [] rfl rfl
theorem sbc_A_C : Statement (.sbc_A_C) := of_head 0x99 [] rfl rfl
theorem sbc_A_D : Statement (.sbc_A_D) := of_head 0x9A [] rfl rfl
theorem sbc_A_E : Statement (.sbc_A_E) := of_head 0x9B [] rfl rfl
theorem sbc_A_H : Statement (.sbc_A_H) := of_head 0x9C [] rfl rfl
theorem sbc_A_L : Statement (.sbc_A_L) := of_head 0x9D [] rfl rfl
theorem sbc_A_mHL : Statement (.sbc_A_mHL) := of_head 0x9E [] rfl rfl
theorem sbc_A_A : Statement (.sbc_A_A) := of_head 0x9F [] rfl rfl
theorem and_B : Statement (.and_B) := of_head 0xA0 [] rfl rfl
theorem and_C : Statement (.and_C) := of_head 0xA1 [] rfl rfl
theorem and_D : Statement (.and_D) := of_head 0xA2 [] rfl rfl
theorem and_E : Statement (.and_E) := of_head 0xA3 [] rfl rfl
theorem and_H : Statement (.and_H) := of_head 0xA4 [] rfl rfl
theorem and_L : Statement (.and_L) := of_head 0xA5 [] rfl rfl
theorem and_mHL : Statement (.and_mHL) := of_head 0xA6 [] rfl rfl
theorem and_A : Statement (.and_A) := of_head 0xA7 [] rfl rfl
theorem xor_B : Statement (.xor_B) := of_head 0xA8 [] rfl rfl
theorem xor_C : Statement (.xor_C) := of_head 0xA9 [] rfl rfl
theorem xor_D : Statement (.xor_D) := of_head 0xAA [] rfl rfl
theorem xor_E : Statement (.xor_E) := of_head 0xAB [] rfl rfl
theorem xor_H : Statement (.xor_H) := of_head 0xAC [] rfl rfl
theorem xor_L : Statement (.xor_L) := of_head 0xAD [] rfl rfl
theorem xor_mHL : Statement (.xor_mHL) := of_head 0xAE [] rfl rfl
theorem xor_A : Statement (.xor_A) := of_head 0xAF [] rfl rfl
theorem or_B : Statement (.or_B) := of_head 0xB0 [] rfl rfl
theorem or_C : Statement (.or_C) := of_head 0xB1 [] rfl rfl
theorem or_D : Statement (.or_D) := of_head 0xB2 [] rfl rfl
theorem or_E : Statement (.or_E) := of_head 0xB3 [] rfl rfl
theorem or_H : Statement (.or_H) := of_head 0xB4 [] rfl rfl
theorem or_L : Statement (.or_L) := of_head 0xB5 [] rfl rfl
theorem or_mHL : Statement (.or_mHL) := of_head 0xB6 [] rfl rfl
theorem or_A : Statement (.or_A) := of_head 0xB7 [] rfl rfl
theorem cp_B : Statement (.cp_B) := of_head 0xB8 [] rfl rfl
theorem cp_C : Statement (.cp_C) := of_head 0xB9 [] rfl rfl
theorem cp_D : Statement (.cp_D) := of_head 0xBA [] rfl rfl
theorem cp_E : Statement (.cp_E) := of_head 0xBB [] rfl rfl
theorem cp_H : Statement (.cp_H) := of_head 0xBC [] rfl rfl
theorem cp_L : Statement (.cp_L) := of_head 0xBD [] rfl rfl
theorem cp_mHL : Statement (.cp_mHL) := of_head 0xBE [] rfl rfl
theorem cp_A : Statement (.cp_A) := of_head 0xBF [] rfl rfl
theorem ret_NZ : Statement (.ret_NZ) := of_head 0xC0 [] rfl rfl
theorem pop_BC : Statement (.pop_BC) := of_head 0xC1 [] rfl rfl
theorem jp_NZ_a16 (nn : Word) : Statement (.jp_NZ_a16 nn) := of_head 0xC2 [(Machine.lo nn), (Machine.hi nn)] rfl rfl
theorem jp_a16 (nn : Word) : Statement (.jp_a16 nn) := of_head 0xC3 [(Machine.lo nn), (Machine.hi nn)] rfl rfl
theorem call_NZ_a16 (nn : Word) : Statement (.call_NZ_a16 nn) := of_head 0xC4 [(Machine.lo nn), (Machine.hi nn)] rfl rfl
theorem push_BC : Statement (.push_BC) := of_head 0xC5 [] rfl rfl
theorem add_A_d8 (n : Byte) : Statement (.add_A_d8 n) := of_head 0xC6 [n] rfl rfl
theorem rst_00 : Statement (.rst_00) := of_head 0xC7 [] rfl rfl
theorem ret_Z : Statement (.ret_Z) := of_head 0xC8 [] rfl rfl
theorem ret : Statement (.ret) := of_head 0xC9 [] rfl rfl
theorem jp_Z_a16 (nn : Word) : Statement (.jp_Z_a16 nn) := of_head 0xCA [(Machine.lo nn), (Machine.hi nn)] rfl rfl
theorem call_Z_a16 (nn : Word) : Statement (.call_Z_a16 nn) := of_head 0xCC [(Machine.lo nn), (Machine.hi nn)] rfl rfl
theorem call_a16 (nn : Word) : Statement (.call_a16 nn) := of_head 0xCD [(Machine.lo nn), (Machine.hi nn)] rfl rfl
theorem adc_A_d8 (n : Byte) : Statement (.adc_A_d8 n) := of_head 0xCE [n] rfl rfl
theorem rst_08 : Statement (.rst_08) := of_head 0xCF [] rfl rfl
theorem ret_NC : Statement (.ret_NC) := of_head 0xD0 [] rfl rfl
theorem pop_DE : Statement (.pop_DE) := of_head 0xD1 [] rfl rfl
theorem jp_NC_a16 (nn : Word) : Statement (.jp_NC_a16 nn) := of_head 0xD2 [(Machine.lo nn), (Machine.hi nn)] rfl rfl
theorem invalid (op : Byte) : Statement (.invalid op) := fun h =>
  of_head op [] rfl (of_invalid op (List.contains_iff_mem.mp h)).symm h
theorem call_NC_a16 (nn : Word) : Statement (.call_NC_a16 nn) := of_head 0xD4 [(Machine.lo nn), (Machine.hi nn)] rfl rfl
theorem push_DE : Statement (.push_DE) := of_head 0xD5 [] rfl rfl
theorem sub_d8 (n : Byte) : Statement (.sub_d8 n) := of_head 0xD6 [n] rfl rfl
theorem rst_10 : Statement (.rst_10) := of_head 0xD7 [] rfl rfl
theorem ret_C : Statement (.ret_C) := of_head 0xD8 [] rfl rfl
theorem reti : Statement (.reti) := of_head 0xD9 [] rfl rfl
theorem jp_C_a16 (nn : Word) : Statement (.jp_C_a16 nn) := of_head 0xDA [(Machine.lo nn), (Machine.hi nn)] rfl rfl
theorem call_C_a16 (nn : Word) : Statement (.call_C_a16 nn) := of_head 0xDC [(Machine.lo nn), (Machine.hi nn)] rfl rfl
theorem sbc_A_d8 (n : Byte) : Statement (.sbc_A_d8 n) := of_head 0xDE [n] rfl rfl
theorem rst_18 : Statement (.rst_18) := of_head 0xDF [] rfl rfl
theorem ldh_ma8_A (n : Byte) : Statement (.ldh_ma8_A n) := of_head 0xE0 [n] rfl rfl
theorem pop_HL : Statement (.pop_HL) := of_head 0xE1 [] rfl rfl
theorem ld_mC_A : Statement (.ld_mC_A) := of_head 0xE2 [] rfl rfl
theorem push_HL : Statement (.push_HL) := of_head 0xE5 [] rfl rfl
theorem and_d8 (n : Byte) : Statement (.and_d8 n) := of_head 0xE6 [n] rfl rfl
theorem rst_20 : Statement (.rst_20) := of_head 0xE7 [] rfl rfl
theorem add_SP_e8 (e : Byte) : Statement (.add_SP_e8 e) := of_head 0xE8 [e] rfl rfl
theorem jp_HL : Statement (.jp_HL) := of_head 0xE9 [] rfl rfl
theorem ld_ma16_A (nn : Word) : Statement (.ld_ma16_A nn) := of_head 0xEA [(Machine.lo nn), (Machine.hi nn)] rfl rfl
theorem xor_d8 (n : Byte) : Statement (.xor_d8 n) := of_head 0xEE [n] rfl rfl
theorem rst_28 : Statement (.rst_28) := of_head 0xEF [] rfl rfl
theorem ldh_A_ma8 (n : Byte) : Statement (.ldh_A_ma8 n) := of_head 0xF0 [n] rfl rfl
theorem pop_AF : Statement (.pop_AF) := of_head 0xF1 [] rfl rfl
theorem ld_A_mC : Statement (.ld_A_mC) := of_head 0xF2 [] rfl rfl
theorem di : Statement (.di) := of_head 0xF3 [] rfl rfl
theorem push_AF : Statement (.push_AF) := of_head 0xF5 [] rfl rfl
theorem or_d8 (n : Byte) : Statement (.or_d8 n) := of_head 0xF6 [n] rfl rfl
theorem rst_30 : Statement (.rst_30) := of_head 0xF7 [] rfl rfl
theorem ld_HL_SPe8 (e : Byte) : Statement (.ld_HL_SPe8 e) := of_head 0xF8 [e] rfl rfl
theorem ld_SP_HL : Statement (.ld_SP_HL) := of_head 0xF9 [] rfl rfl
theorem ld_A_ma16 (nn : Word) : Statement (.ld_A_ma16 nn) := of_head 0xFA [(Machine.lo nn), (Machine.hi nn)] rfl rfl
theorem ei : Statement (.ei) := of_head 0xFB [] rfl rfl
theorem cp_d8 (n : Byte) : Statement (.cp_d8 n) := of_head 0xFE [n] rfl rfl
theorem rst_38 : Statement (.rst_38) := of_head 0xFF [] rfl rfl
theorem rlc_B : Statement (.rlc_B) := of_head 0xCB [0x00] rfl rfl
theorem rlc_C : Statement (.rlc_C) := of_head 0xCB [0x01] rfl rfl
theorem rlc_D : Statement (.rlc_D) := of_head 0xCB [0x02] rfl rfl
theorem rlc_E : Statement (.rlc_E) := of_head 0xCB [0x03] rfl rfl
theorem rlc_H : Statement (.rlc_H) := of_head 0xCB [0x04] rfl rfl
theorem rlc_L : Statement (.rlc_L) := of_head 0xCB [0x05] rfl rfl
theorem rlc_mHL : Statement (.rlc_mHL) := of_head 0xCB [0x06] rfl rfl
theorem rlc_A : Statement (.rlc_A) := of_head 0xCB [0x07] rfl rfl
theorem rrc_B : Statement (.rrc_B) := of_head 0xCB [0x08] rfl rfl
theorem rrc_C : Statement (.rrc_C) := of_head 0xCB [0x09] rfl rfl
theorem rrc_D : Statement (.rrc_D) := of_head 0xCB [0x0A] rfl rfl
theorem rrc_E : Statement (.rrc_E) := of_head 0xCB [0x0B] rfl rfl
theorem rrc_H : Statement (.rrc_H) := of_head 0xCB [0x0C] rfl rfl
theorem rrc_L : Statement (.rrc_L) := of_head 0xCB [0x0D] rfl rfl
theorem rrc_mHL : Statement (.rrc_mHL) := of_head 0xCB [0x0E] rfl rfl
theorem rrc_A : Statement (.rrc_A) := of_head 0xCB [0x0F] rfl rfl
theorem rl_B : Statement (.rl_B) := of_head 0xCB [0x10] rfl rfl
theorem rl_C : Statement (.rl_C) := of_head 0xCB [0x11] rfl rfl
theorem rl_D : Statement (.rl_D) := of_head 0xCB [0x12] rfl rfl
theorem rl_E : Statement (.rl_E) := of_head 0xCB [0x13] rfl rfl
theorem rl_H : Statement (.rl_H) := of_head 0xCB [0x14] rfl rfl
theorem rl_L : Statement (.rl_L) := of_head 0xCB [0x15] rfl rfl
theorem rl_mHL : Statement (.rl_mHL) := of_head 0xCB [0x16] rfl rfl
theorem rl_A : Statement (.rl_A) := of_head 0xCB [0x17] rfl rfl
theorem rr_B : Statement (.rr_B) := of_head 0xCB [0x18] rfl rfl
theorem rr_C : Statement (.rr_C) := of_head 0xCB [0x19] rfl rfl
theorem rr_D : Statement (.rr_D) := of_head 0xCB [0x1A] rfl rfl
theorem rr_E : Statement (.rr_E) := of_head 0xCB [0x1B] rfl rfl
theorem rr_H : Statement (.rr_H) := of_head 0xCB [0x1C] rfl rfl
theorem rr_L : Statement (.rr_L) := of_head 0xCB [0x1D] rfl rfl
theorem rr_mHL : Statement (.rr_mHL) := of_head 0xCB [0x1E] rfl rfl
theorem rr_A : Statement (.rr_A) := of_head 0xCB [0x1F] rfl rfl
theorem sla_B : Statement (.sla_B) := of_head 0xCB [0x20] rfl rfl
theorem sla_C : Statement (.sla_C) := of_head 0xCB [0x21] rfl rfl
theorem sla_D : Statement (.sla_D) := of_head 0xCB [0x22] rfl rfl
theorem sla_E : Statement (.sla_E) := of_head 0xCB [0x23] rfl rfl
theorem sla_H : Statement (.sla_H) := of_head 0xCB [0x24] rfl rfl
theorem sla_L : Statement (.sla_L) := of_head 0xCB [0x25] rfl rfl
theorem sla_mHL : Statement (.sla_mHL) := of_head 0xCB [0x26] rfl rfl
theorem sla_A : Statement (.sla_A) := of_head 0xCB [0x27] rfl rfl
theorem sra_B : Statement (.sra_B) := of_head 0xCB [0x28] rfl rfl
theorem sra_C : Statement (.sra_C) := of_head 0xCB [0x29] rfl rfl
theorem sra_D : Statement (.sra_D) := of_head 0xCB [0x2A] rfl rfl
theorem sra_E : Statement (.sra_E) := of_head 0xCB [0x2B] rfl rfl
theorem sra_H : Statement (.sra_H) := of_head 0xCB [0x2C] rfl rfl
theorem sra_L : Statement (.sra_L) := of_head 0xCB [0x2D] rfl rfl
theorem sra_mHL : Statement (.sra_mHL) := of_head 0xCB [0x2E] rfl rfl
theorem sra_A : Statement (.sra_A) := of_head 0xCB [0x2F] rfl rfl
theorem swap_B : Statement (.swap_B) := of_head 0xCB [0x30] rfl rfl
theorem swap_C : Statement (.swap_C) := of_head 0xCB [0x31] rfl rfl
theorem swap_D : Statement (.swap_D) := of_head 0xCB [0x32] rfl rfl
theorem swap_E : Statement (.swap_E) := of_head 0xCB [0x33] rfl rfl
theorem swap_H : Statement (.swap_H) := of_head 0xCB [0x34] rfl rfl
theorem swap_L : Statement (.swap_L) := of_head 0xCB [0x35] rfl rfl
theorem swap_mHL : Statement (.swap_mHL) := of_head 0xCB [0x36] rfl rfl
theorem swap_A : Statement (.swap_A) := of_head 0xCB [0x37] rfl rfl
theorem srl_B : Statement (.srl_B) := of_head 0xCB [0x38] rfl rfl
theorem srl_C : Statement (.srl_C) := of_head 0xCB [0x39] rfl rfl
theorem srl_D : Statement (.srl_D) := of_head 0xCB [0x3A] rfl rfl
theorem srl_E : Statement (.srl_E) := of_head 0xCB [0x3B] rfl rfl
theorem srl_H : Statement (.srl_H) := of_head 0xCB [0x3C] rfl rfl
theorem srl_L : Statement (.srl_L) := of_head 0xCB [0x3D] rfl rfl
theorem srl_mHL : Statement (.srl_mHL) := of_head 0xCB [0x3E] rfl rfl
theorem srl_A : Statement (.srl_A) := of_head 0xCB [0x3F] rfl rfl
theorem bit_0_B : Statement (.bit_0_B) := of_head 0xCB [0x40] rfl rfl
theorem bit_0_C : Statement (.bit_0_C) := of_head 0xCB [0x41] rfl rfl
theorem bit_0_D : Statement (.bit_0_D) := of_head 0xCB [0x42] rfl rfl
theorem bit_0_E : Statement (.bit_0_E) := of_head 0xCB [0x43] rfl rfl
theorem bit_0_H : Statement (.bit_0_H) := of_head 0xCB [0x44] rfl rfl
theorem bit_0_L : Statement (.bit_0_L) := of_head 0xCB [0x45] rfl rfl
theorem bit_0_mHL : Statement (.bit_0_mHL) := of_head 0xCB [0x46] rfl rfl
theorem bit_0_A : Statement (.bit_0_A) := of_head 0xCB [0x47] rfl rfl
theorem bit_1_B : Statement (.bit_1_B) := of_head 0xCB [0x48] rfl rfl
theorem bit_1_C : Statement (.bit_1_C) := of_head 0xCB [0x49] rfl rfl
theorem bit_1_D : Statement (.bit_1_D) := of_head 0xCB [0x4A] rfl rfl
theorem bit_1_E : Statement (.bit_1_E) := of_head 0xCB [0x4B] rfl rfl
theorem bit_1_H : Statement (.bit_1_H) := of_head 0xCB [0x4C] rfl rfl
theorem bit_1_L : Statement (.bit_1_L) := of_head 0xCB [0x4D] rfl rfl
theorem bit_1_mHL : Statement (.bit_1_mHL) := of_head 0xCB [0x4E] rfl rfl
theorem bit_1_A : Statement (.bit_1_A) := of_head 0xCB [0x4F] rfl rfl
theorem bit_2_B : Statement (.bit_2_B) := of_head 0xCB [0x50] rfl rfl
theorem bit_2_C : Statement (.bit_2_C) := of_head 0xCB [0x51] rfl rfl
theorem bit_2_D : Statement (.bit_2_D) := of_head 0xCB [0x52] rfl rfl
theorem bit_2_E : Statement (.bit_2_E) := of_head 0xCB [0x53] rfl rfl
theorem bit_2_H : Statement (.bit_2_H) := of_head 0xCB [0x54] rfl rfl
theorem bit_2_L : Statement (.bit_2_L) := of_head 0xCB [0x55] rfl rfl
theorem bit_2_mHL : Statement (.bit_2_mHL) := of_head 0xCB [0x56] rfl rfl
theorem bit_2_A : Statement (.bit_2_A) := of_head 0xCB [0x57] rfl rfl
theorem bit_3_B : Statement (.bit_3_B) := of_head 0xCB [0x58] rfl rfl
theorem bit_3_C : Statement (.bit_3_C) := of_head 0xCB [0x59] rfl rfl
theorem bit_3_D : Statement (.bit_3_D) := of_head 0xCB [0x5A] rfl rfl
theorem bit_3_E : Statement (.bit_3_E) := of_head 0xCB [0x5B] rfl rfl
theorem bit_3_H : Statement (.bit_3_H) := of_head 0xCB [0x5C] rfl rfl
theorem bit_3_L : Statement (.bit_3_L) := of_head 0xCB [0x5D] rfl rfl
theorem bit_3_mHL : Statement (.bit_3_mHL) := of_head 0xCB [0x5E] rfl rfl
theorem bit_3_A : Statement (.bit_3_A) := of_head 0xCB [0x5F] rfl rfl
theorem bit_4_B : Statement (.bit_4_B) := of_head 0xCB [0x60] rfl rfl
theorem bit_4_C : Statement (.bit_4_C) := of_head 0xCB [0x61] rfl rfl
theorem bit_4_D : Statement (.bit_4_D) := of_head 0xCB [0x62] rfl rfl
theorem bit_4_E : Statement (.bit_4_E) := of_head 0xCB [0x63] rfl rfl
theorem bit_4_H : Statement (.bit_4_H) := of_head 0xCB [0x64] rfl rfl
theorem bit_4_L : Statement (.bit_4_L) := of_head 0xCB [0x65] rfl rfl
theorem bit_4_mHL : Statement (.bit_4_mHL) := of_head 0xCB [0x66] rfl rfl
theorem bit_4_A : Statement (.bit_4_A) := of_head 0xCB [0x67] rfl rfl
theorem bit_5_B : Statement (.bit_5_B) := of_head 0xCB [0x68] rfl rfl
theorem bit_5_C : Statement (.bit_5_C) := of_head 0xCB [0x69] rfl rfl
theorem bit_5_D : Statement (.bit_5_D) := of_head 0xCB [0x6A] rfl rfl
theorem bit_5_E : Statement (.bit_5_E) := of_head 0xCB [0x6B] rfl rfl
theorem bit_5_H : Statement (.bit_5_H) := of_head 0xCB [0x6C] rfl rfl
theorem bit_5_L : Statement (.bit_5_L) := of_head 0xCB [0x6D] rfl rfl
theorem bit_5_mHL : Statement (.bit_5_mHL) := of_head 0xCB [0x6E] rfl rfl
theorem bit_5_A : Statement (.bit_5_A) := of_head 0xCB [0x6F] rfl rfl
theorem bit_6_B : Statement (.bit_6_B) := of_head 0xCB [0x70] rfl rfl
theorem bit_6_C : Statement (.bit_6_C) := of_head 0xCB [0x71] rfl rfl
theorem bit_6_D : Statement (.bit_6_D) := of_head 0xCB [0x72] rfl rfl
theorem bit_6_E : Statement (.bit_6_E) := of_head 0xCB [0x73] rfl rfl
theorem bit_6_H : Statement (.bit_6_H) := of_head 0xCB [0x74] rfl rfl
theorem bit_6_L : Statement (.bit_6_L) := of_head 0xCB [0x75] rfl rfl
theorem bit_6_mHL : Statement (.bit_6_mHL) := of_head 0xCB [0x76] rfl rfl
theorem bit_6_A : Statement (.bit_6_A) := of_head 0xCB [0x77] rfl rfl
theorem bit_7_B : Statement (.bit_7_B) := of_head 0xCB [0x78] rfl rfl
theorem bit_7_C : Statement (.bit_7_C) := of_head 0xCB [0x79] rfl rfl
theorem bit_7_D : Statement (.bit_7_D) := of_head 0xCB [0x7A] rfl rfl
theorem bit_7_E : Statement (.bit_7_E) := of_head 0xCB [0x7B] rfl rfl
theorem bit_7_H : Statement (.bit_7_H) := of_head 0xCB [0x7C] rfl rfl
theorem bit_7_L : Statement (.bit_7_L) := of_head 0xCB [0x7D] rfl rfl
theorem bit_7_mHL : Statement (.bit_7_mHL) := of_head 0xCB [0x7E] rfl rfl
theorem bit_7_A : Statement (.bit_7_A) := of_head 0xCB [0x7F] rfl rfl
theorem res_0_B : Statement (.res_0_B) := of_head 0xCB [0x80] rfl rfl
theorem res_0_C : Statement (.res_0_C) := of_head 0xCB [0x81] rfl rfl
theorem res_0_D : Statement (.res_0_D) := of_head 0xCB [0x82] rfl rfl
theorem res_0_E : Statement (.res_0_E) := of_head 0xCB [0x83] rfl rfl
theorem res_0_H : Statement (.res_0_H) := of_head 0xCB [0x84] rfl rfl
theorem res_0_L : Statement (.res_0_L) := of_head 0xCB [0x85] rfl rfl
theorem res_0_mHL : Statement (.res_0_mHL) := of_head 0xCB [0x86] rfl rfl
theorem res_0_A : Statement (.res_0_A) := of_head 0xCB [0x87] rfl rfl
theorem res_1_B : Statement (.res_1_B) := of_head 0xCB [0x88] rfl rfl
theorem res_1_C : Statement (.res_1_C) := of_head 0xCB [0x89] rfl rfl
theorem res_1_D : Statement (.res_1_D) := of_head 0xCB [0x8A] rfl rfl
theorem res_1_E : Statement (.res_1_E) := of_head 0xCB [0x8B] rfl rfl
theorem res_1_H : Statement (.res_1_H) := of_head 0xCB [0x8C] rfl rfl
theorem res_1_L : Statement (.res_1_L) := of_head 0xCB [0x8D] rfl rfl
theorem res_1_mHL : Statement (.res_1_mHL) := of_head 0xCB [0x8E] rfl rfl
theorem res_1_A : Statement (.res_1_A) := of_head 0xCB [0x8F] rfl rfl
theorem res_2_B : Statement (.res_2_B) := of_head 0xCB [0x90] rfl rfl
theorem res_2_C : Statement (.res_2_C) := of_head 0xCB [0x91] rfl rfl
theorem res_2_D : Statement (.res_2_D) := of_head 0xCB [0x92] rfl rfl
theorem res_2_E : Statement (.res_2_E) := of_head 0xCB [0x93] rfl rfl
theorem res_2_H : Statement (.res_2_H) := of_head 0xCB [0x94] rfl rfl
theorem res_2_L : Statement (.res_2_L) := of_head 0xCB [0x95] rfl rfl
theorem res_2_mHL : Statement (.res_2_mHL) := of_head 0xCB [0x96] rfl rfl
theorem res_2_A : Statement (.res_2_A) := of_head 0xCB [0x97] rfl rfl
theorem res_3_B : Statement (.res_3_B) := of_head 0xCB [0x98] rfl rfl
theorem res_3_C : Statement (.res_3_C) := of_head 0xCB [0x99] rfl rfl
theorem res_3_D : Statement (.res_3_D) := of_head 0xCB [0x9A] rfl rfl
theorem res_3_E : Statement (.res_3_E) := of_head 0xCB [0x9B] rfl rfl
theorem res_3_H : Statement (.res_3_H) := of_head 0xCB [0x9C] rfl rfl
theorem res_3_L : Statement (.res_3_L) := of_head 0xCB [0x9D] rfl rfl
theorem res_3_mHL : Statement (.res_3_mHL) := of_head 0xCB [0x9E] rfl rfl
theorem res_3_A : Statement (.res_3_A) := of_head 0xCB [0x9F] rfl rfl
theorem res_4_B : Statement (.res_4_B) := of_head 0xCB [0xA0] rfl rfl
theorem res_4_C : Statement (.res_4_C) := of_head 0xCB [0xA1] rfl rfl
theorem res_4_D : Statement (.res_4_D) := of_head 0xCB [0xA2] rfl rfl
theorem res_4_E : Statement (.res_4_E) := of_head 0xCB [0xA3] rfl rfl
theorem res_4_H : Statement (.res_4_H) := of_head 0xCB [0xA4] rfl rfl
theorem res_4_L : Statement (.res_4_L) := of_head 0xCB [0xA5] rfl rfl
theorem res_4_mHL : Statement (.res_4_mHL) := of_head 0xCB [0xA6] rfl rfl
theorem res_4_A : Statement (.res_4_A) := of_head 0xCB [0xA7] rfl rfl
theorem res_5_B : Statement (.res_5_B) := of_head 0xCB [0xA8] rfl rfl
theorem res_5_C : Statement (.res_5_C) := of_head 0xCB [0xA9] rfl rfl
theorem res_5_D : Statement (.res_5_D) := of_head 0xCB [0xAA] rfl rfl
theorem res_5_E : Statement (.res_5_E) := of_head 0xCB [0xAB] rfl rfl
theorem res_5_H : Statement (.res_5_H) := of_head 0xCB [0xAC] rfl rfl
theorem res_5_L : Statement (.res_5_L) := of_head 0xCB [0xAD] rfl rfl
theorem res_5_mHL : Statement (.res_5_mHL) := of_head 0xCB [0xAE] rfl rfl
theorem res_5_A : Statement (.res_5_A) := of_head 0xCB [0xAF] rfl rfl
theorem res_6_B : Statement (.res_6_B) := of_head 0xCB [0xB0] rfl rfl
theorem res_6_C : Statement (.res_6_C) := of_head 0xCB [0xB1] rfl rfl
theorem res_6_D : Statement (.res_6_D) := of_head 0xCB [0xB2] rfl rfl
theorem res_6_E : Statement (.res_6_E) := of_head 0xCB [0xB3] rfl rfl
theorem res_6_H : Statement (.res_6_H) := of_head 0xCB [0xB4] rfl rfl
theorem res_6_L : Statement (.res_6_L) := of_head 0xCB [0xB5] rfl rfl
theorem res_6_mHL : Statement (.res_6_mHL) := of_head 0xCB [0xB6] rfl rfl
theorem res_6_A : Statement (.res_6_A) := of_head 0xCB [0xB7] rfl rfl
theorem res_7_B : Statement (.res_7_B) := of_head 0xCB [0xB8] rfl rfl
theorem res_7_C : Statement (.res_7_C) := of_head 0xCB [0xB9] rfl rfl
theorem res_7_D : Statement (.res_7_D) := of_head 0xCB [0xBA] rfl rfl
theorem res_7_E : Statement (.res_7_E) := of_head 0xCB [0xBB] rfl rfl
theorem res_7_H : Statement (.res_7_H) := of_head 0xCB [0xBC] rfl rfl
theorem res_7_L : Statement (.res_7_L) := of_head 0xCB [0xBD] rfl rfl
theorem res_7_mHL : Statement (.res_7_mHL) := of_head 0xCB [0xBE] rfl rfl
theorem res_7_A : Statement (.res_7_A) := of_head 0xCB [0xBF] rfl rfl
theorem set_0_B : Statement (.set_0_B) := of_head 0xCB [0xC0] rfl rfl
theorem set_0_C : Statement (.set_0_C) := of_head 0xCB [0xC1] rfl rfl
theorem set_0_D : Statement (.set_0_D) := of_head 0xCB [0xC2] rfl rfl
theorem set_0_E : Statement (.set_0_E) := of_head 0xCB [0xC3] rfl rfl
theorem set_0_H : Statement (.set_0_H) := of_head 0xCB [0xC4] rfl rfl
theorem set_0_L : Statement (.set_0_L) := of_head 0xCB [0xC5] rfl rfl
theorem set_0_mHL : Statement (.set_0_mHL) := of_head 0xCB [0xC6] rfl rfl
theorem set_0_A : Statement (.set_0_A) := of_head 0xCB [0xC7] rfl rfl
theorem set_1_B : Statement (.set_1_B) := of_head 0xCB [0xC8] rfl rfl
theorem set_1_C : Statement (.set_1_C) := of_head 0xCB [0xC9] rfl rfl
theorem set_1_D : Statement (.set_1_D) := of_head 0xCB [0xCA] rfl rfl
theorem set_1_E : Statement (.set_1_E) := of_head 0xCB [0xCB] rfl rfl
theorem set_1_H : Statement (.set_1_H) := of_head 0xCB [0xCC] rfl rfl
theorem set_1_L : Statement (.set_1_L) := of_head 0xCB [0xCD] rfl rfl
theorem set_1_mHL : Statement (.set_1_mHL) := of_head 0xCB [0xCE] rfl rfl
theorem set_1_A : Statement (.set_1_A) := of_head 0xCB [0xCF] rfl rfl
theorem set_2_B : Statement (.set_2_B) := of_head 0xCB [0xD0] rfl rfl
theorem set_2_C : Statement (.set_2_C) := of_head 0xCB [0xD1] rfl rfl
theorem set_2_D : Statement (.set_2_D) := of_head 0xCB [0xD2] rfl rfl
theorem set_2_E : Statement (.set_2_E) := of_head 0xCB [0xD3] rfl rfl
theorem set_2_H : Statement (.set_2_H) := of_head 0xCB [0xD4] rfl rfl
theorem set_2_L : Statement (.set_2_L) := of_head 0xCB [0xD5] rfl rfl
theorem set_2_mHL : Statement (.set_2_mHL) := of_head 0xCB [0xD6] rfl rfl
theorem set_2_A : Statement (.set_2_A) := of_head 0xCB [0xD7] rfl rfl
theorem set_3_B : Statement (.set_3_B) := of_head 0xCB [0xD8] rfl rfl
theorem set_3_C : Statement (.set_3_C) := of_head 0xCB [0xD9] rfl rfl
theorem set_3_D : Statement (.set_3_D) := of_head 0xCB [0xDA] rfl rfl
theorem set_3_E : Statement (.set_3_E) := of_head 0xCB [0xDB] rfl rfl
theorem set_3_H : Statement (.set_3_H) := of_head 0xCB [0xDC] rfl rfl
theorem set_3_L : Statement (.set_3_L) := of_head 0xCB [0xDD] rfl rfl
theorem set_3_mHL : Statement (.set_3_mHL) := of_head 0xCB [0xDE] rfl rfl
theorem set_3_A : Statement (.set_3_A) := of_head 0xCB [0xDF] rfl rfl
theorem set_4_B : Statement (.set_4_B) := of_head 0xCB [0xE0] rfl rfl
theorem set_4_C : Statement (.set_4_C) := of_head 0xCB [0xE1] rfl rfl
theorem set_4_D : Statement (.set_4_D) := of_head 0xCB [0xE2] rfl rfl
theorem set_4_E : Statement (.set_4_E) := of_head 0xCB [0xE3] rfl rfl
theorem set_4_H : Statement (.set_4_H) := of_head 0xCB [0xE4] rfl rfl
theorem set_4_L : Statement (.set_4_L) := of_head 0xCB [0xE5] rfl rfl
theorem set_4_mHL : Statement (.set_4_mHL) := of_head 0xCB [0xE6] rfl rfl
theorem set_4_A : Statement (.set_4_A) := of_head 0xCB [0xE7] rfl rfl
theorem set_5_B : Statement (.set_5_B) := of_head 0xCB [0xE8] rfl rfl
theorem set_5_C : Statement (.set_5_C) := of_head 0xCB [0xE9] rfl rfl
theorem set_5_D : Statement (.set_5_D) := of_head 0xCB [0xEA] rfl rfl
theorem set_5_E : Statement (.set_5_E) := of_head 0xCB [0xEB] rfl rfl
theorem set_5_H : Statement (.set_5_H) := of_head 0xCB [0xEC] rfl rfl
theorem set_5_L : Statement (.set_5_L) := of_head 0xCB [0xED] rfl rfl
theorem set_5_mHL : Statement (.set_5_mHL) := of_head 0xCB [0xEE] rfl rfl
theorem set_5_A : Statement (.set_5_A) := of_head 0xCB [0xEF] rfl rfl
theorem set_6_B : Statement (.set_6_B) := of_head 0xCB [0xF0] rfl rfl
theorem set_6_C : Statement (.set_6_C) := of_head 0xCB [0xF1] rfl rfl
theorem set_6_D : Statement (.set_6_D) := of_head 0xCB [0xF2] rfl rfl
theorem set_6_E : Statement (.set_6_E) := of_head 0xCB [0xF3] rfl rfl
theorem set_6_H : Statement (.set_6_H) := of_head 0xCB [0xF4] rfl rfl
theorem set_6_L : Statement (.set_6_L) := of_head 0xCB [0xF5] rfl rfl
theorem set_6_mHL : Statement (.set_6_mHL) := of_head 0xCB [0xF6] rfl rfl
theorem set_6_A : Statement (.set_6_A) := of_head 0xCB [0xF7] rfl rfl
theorem set_7_B : Statement (.set_7_B) := of_head 0xCB [0xF8] rfl rfl
theorem set_7_C : Statement (.set_7_C) := of_head 0xCB [0xF9] rfl rfl
theorem set_7_D : Statement (.set_7_D) := of_head 0xCB [0xFA] rfl rfl
theorem set_7_E : Statement (.set_7_E) := of_head 0xCB [0xFB] rfl rfl
theorem set_7_H : Statement (.set_7_H) := of_head 0xCB [0xFC] rfl rfl
theorem set_7_L : Statement (.set_7_L) := of_head 0xCB [0xFD] rfl rfl
theorem set_7_mHL : Statement (.set_7_mHL) := of_head 0xCB [0xFE] rfl rfl
theorem set_7_A : Statement (.set_7_A) := of_head 0xCB [0xFF] rfl rfl

end Sys2Proof.Laws.EncodedLength
end

