-- ==== Sys2Proof/Tests/Slice0.lean ====
section
/-! SUPPORT. The model's own tests: well-formedness, decoding of words written out from the spec's encodings, one step per
vector of spec/95_test_vectors.md, and a witness for the hypotheses of every statement. -/

namespace Sys2Proof.Tests

open Sys2Proof Sys2Proof.Machine Sys2Proof.Claims

/-! ### Well-formedness: the one check is that `invalid` names one of the 11 bytes of R111 -/

theorem test_wellFormed_refuses_invalid_nop : (Instr.invalid 0x00).wellFormed = false := by decide
theorem test_wellFormed_refuses_invalid_prefix : (Instr.invalid 0xCB).wellFormed = false := by decide
theorem test_wellFormed_accepts_the_eleven : ∀ b ∈ INVALID11, (Instr.invalid b).wellFormed = true := by decide

/-! ### Decoding: bit patterns of the rules' Encoding lines, for every operand -/

theorem test_decode_ld_r_r (y z : Reg8) (rest : List Byte) :
    decode (BitVec.ofNat 8 (0b01000000 + 8 * y.code + z.code) :: rest) = .ok (Instr.ldRR y z, rest) := by
  cases y <;> cases z <;> rfl
theorem test_decode_ld_r_d8 (y : Reg8) (n : Byte) :
    decode [BitVec.ofNat 8 (0b00000110 + 8 * y.code), n] = .ok (Instr.ldRI y n, []) := by cases y <;> rfl
theorem test_decode_ld_r_mHL (y : Reg8) : decode [BitVec.ofNat 8 (0b01000110 + 8 * y.code)] = .ok (Instr.ldRM y, []) := by
  cases y <;> rfl
theorem test_decode_ld_mHL_r (z : Reg8) : decode [BitVec.ofNat 8 (0b01110000 + z.code)] = .ok (Instr.ldMR z, []) := by
  cases z <;> rfl
theorem test_decode_ld_mHL_d8 (n : Byte) : decode [0b00110110, n] = .ok (.ld_mHL_d8 n, []) := rfl
theorem test_decode_ld_A_mBC : decode [0x0A] = .ok (.ld_A_mBC, []) := rfl
theorem test_decode_ld_A_mDE : decode [0x1A] = .ok (.ld_A_mDE, []) := rfl
theorem test_decode_ld_mBC_A : decode [0x02] = .ok (.ld_mBC_A, []) := rfl
theorem test_decode_ld_mDE_A : decode [0x12] = .ok (.ld_mDE_A, []) := rfl
theorem test_decode_ld_A_mHLinc : decode [0x2A] = .ok (.ld_A_mHLinc, []) := rfl
theorem test_decode_ld_A_mHLdec : decode [0x3A] = .ok (.ld_A_mHLdec, []) := rfl
theorem test_decode_ld_mHLinc_A : decode [0x22] = .ok (.ld_mHLinc_A, []) := rfl
theorem test_decode_ld_mHLdec_A : decode [0x32] = .ok (.ld_mHLdec_A, []) := rfl
theorem test_decode_ld_A_ma16 (l h : Byte) : decode [0xFA, l, h] = .ok (.ld_A_ma16 (cat h l), []) := rfl
theorem test_decode_ld_ma16_A (l h : Byte) : decode [0xEA, l, h] = .ok (.ld_ma16_A (cat h l), []) := rfl
theorem test_decode_ldh_A_ma8 (n : Byte) : decode [0xF0, n] = .ok (.ldh_A_ma8 n, []) := rfl
theorem test_decode_ldh_ma8_A (n : Byte) : decode [0xE0, n] = .ok (.ldh_ma8_A n, []) := rfl
theorem test_decode_ld_A_mC : decode [0xF2] = .ok (.ld_A_mC, []) := rfl
theorem test_decode_ld_mC_A : decode [0xE2] = .ok (.ld_mC_A, []) := rfl
theorem test_decode_ld_rr_d16 (p : Reg16) (l h : Byte) :
    decode [BitVec.ofNat 8 (0b00000001 + 16 * p.code), l, h] = .ok (Instr.ldRRI p (cat h l), []) := by cases p <;> rfl
theorem test_decode_ld_ma16_SP (l h : Byte) : decode [0x08, l, h] = .ok (.ld_ma16_SP (cat h l), []) := rfl
theorem test_decode_ld_SP_HL : decode [0xF9] = .ok (.ld_SP_HL, []) := rfl
theorem test_decode_ld_HL_SPe8 (e : Byte) : decode [0xF8, e] = .ok (.ld_HL_SPe8 e, []) := rfl
theorem test_decode_push (p : Reg16S) : decode [BitVec.ofNat 8 (0b11000101 + 16 * p.code)] = .ok (Instr.push p, []) := by
  cases p <;> rfl
theorem test_decode_pop (p : Reg16S) : decode [BitVec.ofNat 8 (0b11000001 + 16 * p.code)] = .ok (Instr.pop p, []) := by
  cases p <;> rfl
theorem test_decode_alu (op : AluOp) (z : Reg8) :
    decode [BitVec.ofNat 8 (0b10000000 + 8 * op.code + z.code)] = .ok (Instr.alu op (.reg z), []) := by
  cases op <;> cases z <;> rfl
theorem test_decode_alu_mHL (op : AluOp) : decode [BitVec.ofNat 8 (0b10000110 + 8 * op.code)] = .ok (Instr.alu op .mHL, []) := by
  cases op <;> rfl
theorem test_decode_alu_d8 (op : AluOp) (n : Byte) :
    decode [BitVec.ofNat 8 (0b11000110 + 8 * op.code), n] = .ok (Instr.alu op (.d8 n), []) := by cases op <;> rfl
theorem test_decode_inc (y : Reg8) : decode [BitVec.ofNat 8 (0b00000100 + 8 * y.code)] = .ok (Instr.inc8 (.reg y), []) := by
  cases y <;> rfl
theorem test_decode_dec (y : Reg8) : decode [BitVec.ofNat 8 (0b00000101 + 8 * y.code)] = .ok (Instr.dec8 (.reg y), []) := by
  cases y <;> rfl
theorem test_decode_inc_dec_mHL : decode [0x34] = .ok (.inc_mHL, []) ∧ decode [0x35] = .ok (.dec_mHL, []) := ⟨rfl, rfl⟩
theorem test_decode_daa_cpl : decode [0x27] = .ok (.daa, []) ∧ decode [0x2F] = .ok (.cpl, []) := ⟨rfl, rfl⟩
theorem test_decode_scf_ccf : decode [0x37] = .ok (.scf, []) ∧ decode [0x3F] = .ok (.ccf, []) := ⟨rfl, rfl⟩
theorem test_decode_add_HL_rr (p : Reg16) : decode [BitVec.ofNat 8 (0b00001001 + 16 * p.code)] = .ok (Instr.addHL p, []) := by
  cases p <;> rfl
theorem test_decode_inc_rr (p : Reg16) : decode [BitVec.ofNat 8 (0b00000011 + 16 * p.code)] = .ok (Instr.inc16 p, []) := by
  cases p <;> rfl
theorem test_decode_dec_rr (p : Reg16) : decode [BitVec.ofNat 8 (0b00001011 + 16 * p.code)] = .ok (Instr.dec16 p, []) := by
  cases p <;> rfl
theorem test_decode_add_SP_e8 (e : Byte) : decode [0xE8, e] = .ok (.add_SP_e8 e, []) := rfl
theorem test_decode_rotA : decode [0x07] = .ok (.rlca, []) ∧ decode [0x0F] = .ok (.rrca, []) ∧ decode [0x17] = .ok (.rla, []) ∧
    decode [0x1F] = .ok (.rra, []) := ⟨rfl, rfl, rfl, rfl⟩
theorem test_decode_rot (op : RotOp) (z : Loc8) :
    decode [0xCB, BitVec.ofNat 8 (8 * op.code + z.code)] = .ok (Instr.rot op z, []) := by
  cases op <;> (rcases z with r | _) <;> (first | cases r | skip) <;> rfl
theorem test_decode_bit (b : Sel3) (z : Loc8) :
    decode [0xCB, BitVec.ofNat 8 (0b01000000 + 8 * b.toNat + z.code)] = .ok (Instr.bit b z, []) := by
  cases b <;> (rcases z with r | _) <;> (first | cases r | skip) <;> rfl
theorem test_decode_res (b : Sel3) (z : Loc8) :
    decode [0xCB, BitVec.ofNat 8 (0b10000000 + 8 * b.toNat + z.code)] = .ok (Instr.res b z, []) := by
  cases b <;> (rcases z with r | _) <;> (first | cases r | skip) <;> rfl
theorem test_decode_set (b : Sel3) (z : Loc8) :
    decode [0xCB, BitVec.ofNat 8 (0b11000000 + 8 * b.toNat + z.code)] = .ok (Instr.set b z, []) := by
  cases b <;> (rcases z with r | _) <;> (first | cases r | skip) <;> rfl
theorem test_decode_jp (l h : Byte) : decode [0xC3, l, h] = .ok (.jp_a16 (cat h l), []) := rfl
theorem test_decode_jp_cc (cc : Cond) (l h : Byte) :
    decode [BitVec.ofNat 8 (0b11000010 + 8 * cc.code), l, h] = .ok (Instr.jpCC cc (cat h l), []) := by cases cc <;> rfl
theorem test_decode_jp_HL : decode [0xE9] = .ok (.jp_HL, []) := rfl
theorem test_decode_jr (e : Byte) : decode [0x18, e] = .ok (.jr_e8 e, []) := rfl
theorem test_decode_jr_cc (cc : Cond) (e : Byte) :
    decode [BitVec.ofNat 8 (0b00100000 + 8 * cc.code), e] = .ok (Instr.jrCC cc e, []) := by cases cc <;> rfl
theorem test_decode_call (l h : Byte) : decode [0xCD, l, h] = .ok (.call_a16 (cat h l), []) := rfl
theorem test_decode_call_cc (cc : Cond) (l h : Byte) :
    decode [BitVec.ofNat 8 (0b11000100 + 8 * cc.code), l, h] = .ok (Instr.callCC cc (cat h l), []) := by cases cc <;> rfl
theorem test_decode_ret_reti : decode [0xC9] = .ok (.ret, []) ∧ decode [0xD9] = .ok (.reti, []) := ⟨rfl, rfl⟩
theorem test_decode_ret_cc (cc : Cond) : decode [BitVec.ofNat 8 (0b11000000 + 8 * cc.code)] = .ok (Instr.retCC cc, []) := by
  cases cc <;> rfl
theorem test_decode_rst (y : Sel3) : decode [BitVec.ofNat 8 (0b11000111 + 8 * y.toNat)] = .ok (Instr.rst y, []) := by
  cases y <;> rfl
theorem test_decode_nop_halt : decode [0x00] = .ok (.nop, []) ∧ decode [0x76] = .ok (.halt, []) := ⟨rfl, rfl⟩
theorem test_decode_stop (n : Byte) : decode [0x10, n] = .ok (.stop n, []) := rfl
theorem test_decode_di_ei : decode [0xF3] = .ok (.di, []) ∧ decode [0xFB] = .ok (.ei, []) := ⟨rfl, rfl⟩
theorem test_decode_invalid : ∀ b ∈ INVALID11, decode [b] = .ok (.invalid b, []) := by decide
theorem test_decode_truncated : decode [0xC3, 0x00] = .error (.truncated 0xC3) := rfl
theorem test_decode_empty : decode [] = .error .empty := rfl

/-! ### The numbering of the opcode table (log 15), and placing an instruction where the step fetches (log 16) -/

theorem test_tableWord_nop : decodeTableWord 8 0x00 = some .nop := by decide
theorem test_tableWord_call : decodeTableWord 8 0xCD = some (.call_a16 0x0000) := by decide
theorem test_tableWord_prefixed : decodeTableWord 16 0xCB7C = some .bit_7_H := by decide
theorem test_withFetchWord_reset_runs_cpl :
    (match step (State.reset.withFetchWord 8 0x2F) with | .next t => t.a == 0xFF && t.pc == 0x0001 | _ => false) = true := by decide
theorem test_withFetchWord_wakes_a_sleeper :
    (match step (({ State.reset with halted := true, haltBug := true, pc := 0xFFFF } : State).withFetchWord 16 0xCBC7) with
      | .next t => t.a == 0x01 && t.pc == 0x0001 | _ => false) = true := by decide

/-! ### One step for the vectors of spec/95_test_vectors.md section 2; the rule is in the name -/

/-- A small state at 0x0100; the vectors state what differs. -/
def base : State := { State.reset with pc := 0x0100 }

/-- A boundary at which an interrupt with vector 0x0040 is requested. -/
def request : BoundaryInput := { irqPending := true, vector := 0x0040, wake := false }

/-- One step from `s` with the bytes `bs` placed where it fetches goes on, to a state with `p`. -/
def runs (s : State) (bs : List Byte) (p : State → Bool) : Bool :=
  match step (s.placeAt 0 bs) with
  | .next t => p t
  | _ => false

theorem test_r161_41 :
    runs { base with b := 0x00, c := 0x77, f := 0xF0 } [0x41] (fun t =>
      t.f == 0xF0 && t.b == 0x77 && t.pc == 0x0101 && t.cycles == 1) = true := by decide
theorem test_r162_3e :
    runs { base with a := 0x00 } [0x3E, 0x42] (fun t =>
      t.a == 0x42 && t.f == 0x00 && t.pc == 0x0102 && t.cycles == 2) = true := by decide
theorem test_r163_7e :
    runs { base with h := 0xC1, l := 0x23, mem := [(0xC123, 0x5C)] } [0x7E] (fun t =>
      t.a == 0x5C && t.f == 0x00 && t.pc == 0x0101 && t.cycles == 2) = true := by decide
theorem test_r164_70 :
    runs { base with h := 0xC1, l := 0x23, b := 0x99 } [0x70] (fun t =>
      t.f == 0x00 && t.pc == 0x0101 && t.mem.read 0xC123 == 0x99 && t.cycles == 2) = true := by decide
theorem test_r165_36 :
    runs { base with h := 0xC1, l := 0x23 } [0x36, 0xAB] (fun t =>
      t.f == 0x00 && t.pc == 0x0102 && t.mem.read 0xC123 == 0xAB && t.cycles == 3) = true := by decide
theorem test_r166_0a :
    runs { base with b := 0xC0, c := 0x10, mem := [(0xC010, 0x2F)] } [0x0A] (fun t =>
      t.a == 0x2F && t.f == 0x00 && t.pc == 0x0101 && t.cycles == 2) = true := by decide
theorem test_r167_1a :
    runs { base with d := 0xC0, e := 0x11, mem := [(0xC011, 0x3F)] } [0x1A] (fun t =>
      t.a == 0x3F && t.f == 0x00 && t.pc == 0x0101 && t.cycles == 2) = true := by decide
theorem test_r168_02 :
    runs { base with b := 0xC0, c := 0x10, a := 0x3F } [0x02] (fun t =>
      t.f == 0x00 && t.pc == 0x0101 && t.mem.read 0xC010 == 0x3F && t.cycles == 2) = true := by decide
theorem test_r169_12 :
    runs { base with d := 0xC0, e := 0x11, a := 0x4F } [0x12] (fun t =>
      t.f == 0x00 && t.pc == 0x0101 && t.mem.read 0xC011 == 0x4F && t.cycles == 2) = true := by decide
theorem test_r170_2a :
    runs { base with h := 0xFF, l := 0xFF, mem := [(0xFFFF, 0x56)] } [0x2A] (fun t =>
      t.a == 0x56 && t.f == 0x00 && t.h == 0x00 && t.l == 0x00 && t.pc == 0x0101 && t.cycles == 2) = true := by decide
theorem test_r171_3a :
    runs { base with h := 0x00, l := 0x00, mem := [(0x0000, 0x11)] } [0x3A] (fun t =>
      t.a == 0x11 && t.f == 0x00 && t.h == 0xFF && t.l == 0xFF && t.pc == 0x0101 && t.cycles == 2) = true := by decide
theorem test_r172_22 :
    runs { base with h := 0xC0, l := 0xFF, a := 0x56 } [0x22] (fun t =>
      t.f == 0x00 && t.h == 0xC1 && t.l == 0x00 && t.pc == 0x0101 && t.mem.read 0xC0FF == 0x56 &&
      t.cycles == 2) = true := by decide
theorem test_r173_32 :
    runs { base with h := 0xC0, l := 0x00, a := 0x05 } [0x32] (fun t =>
      t.f == 0x00 && t.h == 0xBF && t.l == 0xFF && t.pc == 0x0101 && t.mem.read 0xC000 == 0x05 &&
      t.cycles == 2) = true := by decide
theorem test_r174_fa :
    runs { base with mem := [(0xC100, 0x77)] } [0xFA, 0x00, 0xC1] (fun t =>
      t.a == 0x77 && t.f == 0x00 && t.pc == 0x0103 && t.cycles == 4) = true := by decide
theorem test_r175_ea :
    runs { base with a := 0x88 } [0xEA, 0x34, 0xC2] (fun t =>
      t.f == 0x00 && t.pc == 0x0103 && t.mem.read 0xC234 == 0x88 && t.cycles == 4) = true := by decide
theorem test_r176_f0 :
    runs { base with mem := [(0xFF44, 0x90)] } [0xF0, 0x44] (fun t =>
      t.a == 0x90 && t.f == 0x00 && t.pc == 0x0102 && t.cycles == 3) = true := by decide
theorem test_r177_e0 :
    runs { base with a := 0x12 } [0xE0, 0x80] (fun t =>
      t.f == 0x00 && t.pc == 0x0102 && t.mem.read 0xFF80 == 0x12 && t.cycles == 3) = true := by decide
theorem test_r178_f2 :
    runs { base with c := 0x95, mem := [(0xFF95, 0x3C)] } [0xF2] (fun t =>
      t.a == 0x3C && t.f == 0x00 && t.pc == 0x0101 && t.cycles == 2) = true := by decide
theorem test_r179_e2 :
    runs { base with c := 0x9F, a := 0x01 } [0xE2] (fun t =>
      t.f == 0x00 && t.pc == 0x0101 && t.mem.read 0xFF9F == 0x01 && t.cycles == 2) = true := by decide
theorem test_r203_01 :
    runs base [0x01, 0x34, 0x12] (fun t =>
      t.f == 0x00 && t.b == 0x12 && t.c == 0x34 && t.pc == 0x0103 && t.cycles == 3) = true := by decide
theorem test_r204_08 :
    runs { base with sp := 0xFFF8 } [0x08, 0x00, 0xC1] (fun t =>
      t.f == 0x00 && t.pc == 0x0103 && t.mem.read 0xC100 == 0xF8 && t.mem.read 0xC101 == 0xFF &&
      t.cycles == 5) = true := by decide
theorem test_r205_f9 :
    runs { base with h := 0xD0, l := 0x00 } [0xF9] (fun t =>
      t.f == 0x00 && t.sp == 0xD000 && t.pc == 0x0101 && t.cycles == 2) = true := by decide
theorem test_r206_f8 :
    runs { base with sp := 0xFFF8, f := 0xC0 } [0xF8, 0x02] (fun t =>
      t.f == 0x00 && t.h == 0xFF && t.l == 0xFA && t.pc == 0x0102 && t.cycles == 3) = true := by decide
theorem test_r206_f8_2 :
    runs { base with sp := 0x0001 } [0xF8, 0xFE] (fun t =>
      t.f == 0x00 && t.h == 0xFF && t.l == 0xFF && t.pc == 0x0102 && t.cycles == 3) = true := by decide
theorem test_r207_c5 :
    runs { base with sp := 0xFFFE, b := 0x12, c := 0x34 } [0xC5] (fun t =>
      t.f == 0x00 && t.sp == 0xFFFC && t.pc == 0x0101 && t.mem.read 0xFFFC == 0x34 && t.mem.read 0xFFFD == 0x12 &&
      t.cycles == 4) = true := by decide
theorem test_r207_f5 :
    runs { base with sp := 0xFFFE, a := 0x12, f := 0xB0 } [0xF5] (fun t =>
      t.f == 0xB0 && t.sp == 0xFFFC && t.pc == 0x0101 && t.mem.read 0xFFFC == 0xB0 && t.mem.read 0xFFFD == 0x12 &&
      t.cycles == 4) = true := by decide
theorem test_r208_d1 :
    runs { base with sp := 0xFFFC, mem := [(0xFFFC, 0x5F), (0xFFFD, 0x3C)] } [0xD1] (fun t =>
      t.f == 0x00 && t.d == 0x3C && t.e == 0x5F && t.sp == 0xFFFE && t.pc == 0x0101 && t.cycles == 3) = true := by decide
theorem test_r209_f1 :
    runs { base with sp := 0xFFFC, mem := [(0xFFFC, 0xFF), (0xFFFD, 0x12)] } [0xF1] (fun t =>
      t.a == 0x12 && t.f == 0xF0 && t.sp == 0xFFFE && t.pc == 0x0101 && t.cycles == 3) = true := by decide
theorem test_r231_80 :
    runs { base with a := 0x02, b := 0x02, c := 0x00 } [0x80] (fun t =>
      t.a == 0x04 && t.f == 0x00 && t.pc == 0x0101 && t.cycles == 1) = true := by decide
theorem test_r231_80_2 :
    runs { base with a := 0x3A, b := 0xC6 } [0x80] (fun t =>
      t.a == 0x00 && t.f == 0xB0 && t.pc == 0x0101 && t.cycles == 1) = true := by decide
theorem test_r232_86 :
    runs { base with a := 0xF0, h := 0xC0, l := 0x00, mem := [(0xC000, 0x20)] } [0x86] (fun t =>
      t.a == 0x10 && t.f == 0x10 && t.pc == 0x0101 && t.cycles == 2) = true := by decide
theorem test_r233_c6 :
    runs { base with a := 0xFF } [0xC6, 0x01] (fun t =>
      t.a == 0x00 && t.f == 0xB0 && t.pc == 0x0102 && t.cycles == 2) = true := by decide
theorem test_r234_88 :
    runs { base with a := 0xFF, b := 0x01, f := 0x10 } [0x88] (fun t =>
      t.a == 0x01 && t.f == 0x30 && t.pc == 0x0101 && t.cycles == 1) = true := by decide
theorem test_r234_88_2 :
    runs { base with a := 0x00, b := 0xFF, f := 0x10 } [0x88] (fun t =>
      t.f == 0xB0 && t.pc == 0x0101 && t.cycles == 1) = true := by decide
theorem test_r235_8e :
    runs { base with a := 0x0E, h := 0xC0, l := 0x00, f := 0x10, mem := [(0xC000, 0x01)] } [0x8E] (fun t =>
      t.a == 0x10 && t.f == 0x20 && t.pc == 0x0101 && t.cycles == 2) = true := by decide
theorem test_r236_ce :
    runs { base with a := 0xE1, f := 0x10 } [0xCE, 0x0F] (fun t =>
      t.a == 0xF1 && t.f == 0x20 && t.pc == 0x0102 && t.cycles == 2) = true := by decide
theorem test_r237_90 :
    runs { base with a := 0x3E, b := 0x3E } [0x90] (fun t =>
      t.a == 0x00 && t.f == 0xC0 && t.pc == 0x0101 && t.cycles == 1) = true := by decide
theorem test_r238_96 :
    runs { base with a := 0x01, h := 0xC0, l := 0x00, mem := [(0xC000, 0x02)] } [0x96] (fun t =>
      t.a == 0xFF && t.f == 0x70 && t.pc == 0x0101 && t.cycles == 2) = true := by decide
theorem test_r239_d6 :
    runs { base with a := 0x3E } [0xD6, 0x0F] (fun t =>
      t.a == 0x2F && t.f == 0x60 && t.pc == 0x0102 && t.cycles == 2) = true := by decide
theorem test_r240_98 :
    runs { base with a := 0x00, b := 0xFF, f := 0x10 } [0x98] (fun t =>
      t.f == 0xF0 && t.pc == 0x0101 && t.cycles == 1) = true := by decide
theorem test_r240_98_2 :
    runs { base with a := 0x3B, b := 0x2A, f := 0x10 } [0x98] (fun t =>
      t.a == 0x10 && t.f == 0x40 && t.pc == 0x0101 && t.cycles == 1) = true := by decide
theorem test_r241_9e :
    runs { base with a := 0x3B, h := 0xC0, l := 0x00, f := 0x10, mem := [(0xC000, 0x4F)] } [0x9E] (fun t =>
      t.a == 0xEB && t.f == 0x70 && t.pc == 0x0101 && t.cycles == 2) = true := by decide
theorem test_r242_de :
    runs { base with a := 0x3B, f := 0x10 } [0xDE, 0x3A] (fun t =>
      t.a == 0x00 && t.f == 0xC0 && t.pc == 0x0102 && t.cycles == 2) = true := by decide
theorem test_r243_b8 :
    runs { base with a := 0x3C, b := 0x2F } [0xB8] (fun t =>
      t.f == 0x60 && t.pc == 0x0101 && t.cycles == 1) = true := by decide
theorem test_r244_be :
    runs { base with a := 0x3C, h := 0xC0, l := 0x00, mem := [(0xC000, 0x40)] } [0xBE] (fun t =>
      t.f == 0x50 && t.pc == 0x0101 && t.cycles == 2) = true := by decide
theorem test_r245_fe :
    runs { base with a := 0x3C } [0xFE, 0x3C] (fun t =>
      t.f == 0xC0 && t.pc == 0x0102 && t.cycles == 2) = true := by decide
theorem test_r246_3c :
    runs { base with a := 0xFF, f := 0x10 } [0x3C] (fun t =>
      t.a == 0x00 && t.f == 0xB0 && t.pc == 0x0101 && t.cycles == 1) = true := by decide
theorem test_r247_34 :
    runs { base with h := 0xC0, l := 0x00, mem := [(0xC000, 0x50)] } [0x34] (fun t =>
      t.f == 0x00 && t.pc == 0x0101 && t.mem.read 0xC000 == 0x51 && t.cycles == 3) = true := by decide
theorem test_r248_2d :
    runs { base with l := 0x01, f := 0x10 } [0x2D] (fun t =>
      t.f == 0xD0 && t.l == 0x00 && t.pc == 0x0101 && t.cycles == 1) = true := by decide
theorem test_r249_35 :
    runs { base with h := 0xC0, l := 0x00 } [0x35] (fun t =>
      t.f == 0x60 && t.pc == 0x0101 && t.mem.read 0xC000 == 0xFF && t.cycles == 3) = true := by decide
theorem test_r250_27 :
    runs { base with a := 0x9A } [0x27] (fun t =>
      t.a == 0x00 && t.f == 0x90 && t.pc == 0x0101 && t.cycles == 1) = true := by decide
theorem test_r250_27_2 :
    runs { base with a := 0x0F, f := 0x60 } [0x27] (fun t =>
      t.a == 0x09 && t.f == 0x40 && t.pc == 0x0101 && t.cycles == 1) = true := by decide
theorem test_r251_37 :
    runs { base with f := 0xE0 } [0x37] (fun t =>
      t.f == 0x90 && t.pc == 0x0101 && t.cycles == 1) = true := by decide
theorem test_r252_3f :
    runs { base with f := 0x70 } [0x3F] (fun t =>
      t.f == 0x00 && t.pc == 0x0101 && t.cycles == 1) = true := by decide
theorem test_r252_3f_2 :
    runs { base with f := 0x80 } [0x3F] (fun t =>
      t.f == 0x90 && t.pc == 0x0101 && t.cycles == 1) = true := by decide
theorem test_r261_09 :
    runs { base with h := 0x8A, l := 0x23, b := 0x06, c := 0x05, f := 0x80 } [0x09] (fun t =>
      t.f == 0xA0 && t.h == 0x90 && t.l == 0x28 && t.pc == 0x0101 && t.cycles == 2) = true := by decide
theorem test_r262_13 :
    runs { base with d := 0xFF, e := 0xFF } [0x13] (fun t =>
      t.f == 0x00 && t.d == 0x00 && t.e == 0x00 && t.pc == 0x0101 && t.cycles == 2) = true := by decide
theorem test_r263_0b :
    runs { base with b := 0x00, c := 0x00, f := 0xF0 } [0x0B] (fun t =>
      t.f == 0xF0 && t.b == 0xFF && t.c == 0xFF && t.pc == 0x0101 && t.cycles == 2) = true := by decide
theorem test_r264_e8 :
    runs { base with sp := 0xFFF8, f := 0xF0 } [0xE8, 0x02] (fun t =>
      t.f == 0x00 && t.sp == 0xFFFA && t.pc == 0x0102 && t.cycles == 4) = true := by decide
theorem test_r264_e8_2 :
    runs { base with sp := 0x0001 } [0xE8, 0xFF] (fun t =>
      t.f == 0x30 && t.sp == 0x0000 && t.pc == 0x0102 && t.cycles == 4) = true := by decide
theorem test_r281_a0 :
    runs { base with a := 0x5A, b := 0x3F, f := 0x10 } [0xA0] (fun t =>
      t.a == 0x1A && t.f == 0x20 && t.pc == 0x0101 && t.cycles == 1) = true := by decide
theorem test_r282_a6 :
    runs { base with a := 0x5A, h := 0xC0, l := 0x00 } [0xA6] (fun t =>
      t.a == 0x00 && t.f == 0xA0 && t.pc == 0x0101 && t.cycles == 2) = true := by decide
theorem test_r283_e6 :
    runs { base with a := 0x5A } [0xE6, 0x38] (fun t =>
      t.a == 0x18 && t.f == 0x20 && t.pc == 0x0102 && t.cycles == 2) = true := by decide
theorem test_r284_af :
    runs { base with a := 0xFF, f := 0x70 } [0xAF] (fun t =>
      t.a == 0x00 && t.f == 0x80 && t.pc == 0x0101 && t.cycles == 1) = true := by decide
theorem test_r285_ae :
    runs { base with a := 0xFF, h := 0xC0, l := 0x00, mem := [(0xC000, 0x8A)] } [0xAE] (fun t =>
      t.a == 0x75 && t.f == 0x00 && t.pc == 0x0101 && t.cycles == 2) = true := by decide
theorem test_r286_ee :
    runs { base with a := 0xFF } [0xEE, 0x0F] (fun t =>
      t.a == 0xF0 && t.f == 0x00 && t.pc == 0x0102 && t.cycles == 2) = true := by decide
theorem test_r287_b0 :
    runs { base with a := 0x00, b := 0x00, f := 0x70 } [0xB0] (fun t =>
      t.f == 0x80 && t.pc == 0x0101 && t.cycles == 1) = true := by decide
theorem test_r288_b6 :
    runs { base with a := 0x5A, h := 0xC0, l := 0x00, mem := [(0xC000, 0x0F)] } [0xB6] (fun t =>
      t.a == 0x5F && t.f == 0x00 && t.pc == 0x0101 && t.cycles == 2) = true := by decide
theorem test_r289_f6 :
    runs { base with a := 0x5A } [0xF6, 0x03] (fun t =>
      t.a == 0x5B && t.f == 0x00 && t.pc == 0x0102 && t.cycles == 2) = true := by decide
theorem test_r290_2f :
    runs { base with a := 0x35, f := 0x90 } [0x2F] (fun t =>
      t.a == 0xCA && t.f == 0xF0 && t.pc == 0x0101 && t.cycles == 1) = true := by decide
theorem test_r301_cb7c :
    runs { base with h := 0x80, f := 0x10 } [0xCB, 0x7C] (fun t =>
      t.f == 0x30 && t.pc == 0x0102 && t.cycles == 2) = true := by decide
theorem test_r301_cb7c_2 :
    runs { base with h := 0x7F, f := 0x10 } [0xCB, 0x7C] (fun t =>
      t.f == 0xB0 && t.pc == 0x0102 && t.cycles == 2) = true := by decide
theorem test_r302_cb46 :
    runs { base with h := 0xC0, l := 0x00, f := 0x40, mem := [(0xC000, 0xFE)] } [0xCB, 0x46] (fun t =>
      t.f == 0xA0 && t.pc == 0x0102 && t.cycles == 3) = true := by decide
theorem test_r303_cb80 :
    runs { base with b := 0xFF, f := 0xF0 } [0xCB, 0x80] (fun t =>
      t.f == 0xF0 && t.b == 0xFE && t.pc == 0x0102 && t.cycles == 2) = true := by decide
theorem test_r304_cbbe :
    runs { base with h := 0xC0, l := 0x00, mem := [(0xC000, 0xFF)] } [0xCB, 0xBE] (fun t =>
      t.f == 0x00 && t.pc == 0x0102 && t.mem.read 0xC000 == 0x7F && t.cycles == 4) = true := by decide
theorem test_r305_cbdf :
    runs { base with a := 0x00 } [0xCB, 0xDF] (fun t =>
      t.a == 0x08 && t.f == 0x00 && t.pc == 0x0102 && t.cycles == 2) = true := by decide
theorem test_r306_cbfe :
    runs { base with h := 0xC0, l := 0x00, f := 0xF0 } [0xCB, 0xFE] (fun t =>
      t.f == 0xF0 && t.pc == 0x0102 && t.mem.read 0xC000 == 0x80 && t.cycles == 4) = true := by decide
theorem test_r321_07 :
    runs { base with a := 0x85 } [0x07] (fun t =>
      t.a == 0x0B && t.f == 0x10 && t.pc == 0x0101 && t.cycles == 1) = true := by decide
theorem test_r321_07_2 :
    runs { base with a := 0x00, f := 0x80 } [0x07] (fun t =>
      t.f == 0x80 && t.pc == 0x0101 && t.cycles == 1) = true := by decide
theorem test_r322_0f :
    runs { base with a := 0x3B } [0x0F] (fun t =>
      t.a == 0x9D && t.f == 0x10 && t.pc == 0x0101 && t.cycles == 1) = true := by decide
theorem test_r323_17 :
    runs { base with a := 0x95, f := 0x10 } [0x17] (fun t =>
      t.a == 0x2B && t.f == 0x10 && t.pc == 0x0101 && t.cycles == 1) = true := by decide
theorem test_r324_1f :
    runs { base with a := 0x81 } [0x1F] (fun t =>
      t.a == 0x40 && t.f == 0x10 && t.pc == 0x0101 && t.cycles == 1) = true := by decide
theorem test_r325_cb00 :
    runs { base with b := 0x85 } [0xCB, 0x00] (fun t =>
      t.f == 0x10 && t.b == 0x0B && t.pc == 0x0102 && t.cycles == 2) = true := by decide
theorem test_r326_cb06 :
    runs { base with h := 0xC0, l := 0x00, f := 0x10 } [0xCB, 0x06] (fun t =>
      t.f == 0x80 && t.pc == 0x0102 && t.cycles == 4) = true := by decide
theorem test_r327_cb08 :
    runs { base with b := 0x01 } [0xCB, 0x08] (fun t =>
      t.f == 0x10 && t.b == 0x80 && t.pc == 0x0102 && t.cycles == 2) = true := by decide
theorem test_r328_cb0e :
    runs { base with h := 0xC0, l := 0x00 } [0xCB, 0x0E] (fun t =>
      t.f == 0x80 && t.pc == 0x0102 && t.cycles == 4) = true := by decide
theorem test_r329_cb10 :
    runs { base with b := 0x80 } [0xCB, 0x10] (fun t =>
      t.f == 0x90 && t.b == 0x00 && t.pc == 0x0102 && t.cycles == 2) = true := by decide
theorem test_r330_cb16 :
    runs { base with h := 0xC0, l := 0x00, mem := [(0xC000, 0x11)] } [0xCB, 0x16] (fun t =>
      t.f == 0x00 && t.pc == 0x0102 && t.mem.read 0xC000 == 0x22 && t.cycles == 4) = true := by decide
theorem test_r331_cb1f :
    runs { base with a := 0x01 } [0xCB, 0x1F] (fun t =>
      t.a == 0x00 && t.f == 0x90 && t.pc == 0x0102 && t.cycles == 2) = true := by decide
theorem test_r332_cb1e :
    runs { base with h := 0xC0, l := 0x00, mem := [(0xC000, 0x8A)] } [0xCB, 0x1E] (fun t =>
      t.f == 0x00 && t.pc == 0x0102 && t.mem.read 0xC000 == 0x45 && t.cycles == 4) = true := by decide
theorem test_r333_cb20 :
    runs { base with b := 0x80 } [0xCB, 0x20] (fun t =>
      t.f == 0x90 && t.b == 0x00 && t.pc == 0x0102 && t.cycles == 2) = true := by decide
theorem test_r334_cb26 :
    runs { base with h := 0xC0, l := 0x00, mem := [(0xC000, 0xFF)] } [0xCB, 0x26] (fun t =>
      t.f == 0x10 && t.pc == 0x0102 && t.mem.read 0xC000 == 0xFE && t.cycles == 4) = true := by decide
theorem test_r335_cb2f :
    runs { base with a := 0x8A } [0xCB, 0x2F] (fun t =>
      t.a == 0xC5 && t.f == 0x00 && t.pc == 0x0102 && t.cycles == 2) = true := by decide
theorem test_r336_cb2e :
    runs { base with h := 0xC0, l := 0x00, mem := [(0xC000, 0x01)] } [0xCB, 0x2E] (fun t =>
      t.f == 0x90 && t.pc == 0x0102 && t.mem.read 0xC000 == 0x00 && t.cycles == 4) = true := by decide
theorem test_r337_cb37 :
    runs { base with a := 0x00, f := 0x70 } [0xCB, 0x37] (fun t =>
      t.f == 0x80 && t.pc == 0x0102 && t.cycles == 2) = true := by decide
theorem test_r338_cb36 :
    runs { base with h := 0xC0, l := 0x00, f := 0x10, mem := [(0xC000, 0xF0)] } [0xCB, 0x36] (fun t =>
      t.f == 0x00 && t.pc == 0x0102 && t.mem.read 0xC000 == 0x0F && t.cycles == 4) = true := by decide
theorem test_r339_cb3f :
    runs { base with a := 0x01 } [0xCB, 0x3F] (fun t =>
      t.a == 0x00 && t.f == 0x90 && t.pc == 0x0102 && t.cycles == 2) = true := by decide
theorem test_r340_cb3e :
    runs { base with h := 0xC0, l := 0x00, mem := [(0xC000, 0xFF)] } [0xCB, 0x3E] (fun t =>
      t.f == 0x10 && t.pc == 0x0102 && t.mem.read 0xC000 == 0x7F && t.cycles == 4) = true := by decide
theorem test_r354_c3 :
    runs base [0xC3, 0x00, 0x80] (fun t =>
      t.f == 0x00 && t.pc == 0x8000 && t.cycles == 4) = true := by decide
theorem test_r355_c2 :
    runs { base with f := 0x80 } [0xC2, 0x00, 0x80] (fun t =>
      t.f == 0x80 && t.pc == 0x0103 && t.cycles == 3) = true := by decide
theorem test_r355_ca :
    runs { base with f := 0x80 } [0xCA, 0x00, 0x80] (fun t =>
      t.f == 0x80 && t.pc == 0x8000 && t.cycles == 4) = true := by decide
theorem test_r356_e9 :
    runs { base with h := 0x12, l := 0x34 } [0xE9] (fun t =>
      t.f == 0x00 && t.pc == 0x1234 && t.cycles == 1) = true := by decide
theorem test_r357_18 : runs base [0x18, 0xFB] (fun t => t.f == 0x00 && t.pc == 0x00FD && t.cycles == 3) = true := by decide
theorem test_r358_38 :
    runs { base with f := 0x10 } [0x38, 0x05] (fun t =>
      t.f == 0x10 && t.pc == 0x0107 && t.cycles == 3) = true := by decide
theorem test_r358_30 :
    runs { base with f := 0x10 } [0x30, 0x05] (fun t =>
      t.f == 0x10 && t.pc == 0x0102 && t.cycles == 2) = true := by decide
theorem test_r359_cd :
    runs { base with sp := 0xFFFE, pc := 0x8000 } [0xCD, 0x34, 0x12] (fun t =>
      t.f == 0x00 && t.sp == 0xFFFC && t.pc == 0x1234 && t.mem.read 0xFFFC == 0x03 && t.mem.read 0xFFFD == 0x80 &&
      t.cycles == 6) = true := by decide
theorem test_r360_d4 :
    runs { base with sp := 0xFFFE, f := 0x10, pc := 0x8000 } [0xD4, 0x34, 0x12] (fun t =>
      t.f == 0x10 && t.pc == 0x8003 && t.cycles == 3) = true := by decide
theorem test_r360_dc :
    runs { base with sp := 0xFFFE, f := 0x10, pc := 0x8000 } [0xDC, 0x34, 0x12] (fun t =>
      t.f == 0x10 && t.sp == 0xFFFC && t.pc == 0x1234 && t.mem.read 0xFFFC == 0x03 && t.mem.read 0xFFFD == 0x80 &&
      t.cycles == 6) = true := by decide
theorem test_r361_c9 :
    runs { base with sp := 0xFFFC, mem := [(0xFFFC, 0x03), (0xFFFD, 0x80)] } [0xC9] (fun t =>
      t.f == 0x00 && t.sp == 0xFFFE && t.pc == 0x8003 && t.cycles == 4) = true := by decide
theorem test_r362_c8 :
    runs { base with sp := 0xFFFC, f := 0x80, mem := [(0xFFFC, 0x03), (0xFFFD, 0x80)] } [0xC8] (fun t =>
      t.f == 0x80 && t.sp == 0xFFFE && t.pc == 0x8003 && t.cycles == 5) = true := by decide
theorem test_r362_c8_2 :
    runs { base with sp := 0xFFFC, mem := [(0xFFFC, 0x03), (0xFFFD, 0x80)] } [0xC8] (fun t =>
      t.f == 0x00 && t.pc == 0x0101 && t.cycles == 2) = true := by decide
theorem test_r363_ef :
    runs { base with sp := 0xFFFE, pc := 0x0150 } [0xEF] (fun t =>
      t.f == 0x00 && t.sp == 0xFFFC && t.pc == 0x0028 && t.mem.read 0xFFFC == 0x51 && t.mem.read 0xFFFD == 0x01 &&
      t.cycles == 4) = true := by decide
theorem test_r363_ff :
    runs { base with sp := 0x0001, pc := 0x0150 } [0xFF] (fun t =>
      t.f == 0x00 && t.sp == 0xFFFF && t.pc == 0x0038 && t.mem.read 0x0000 == 0x01 && t.mem.read 0xFFFF == 0x51 &&
      t.cycles == 4) = true := by decide
theorem test_r380_00 : runs base [0x00] (fun t => t.f == 0x00 && t.pc == 0x0101 && t.cycles == 1) = true := by decide
theorem test_r381_f3 :
    runs { base with ime := .enabled } [0xF3] (fun t =>
      t.f == 0x00 && t.pc == 0x0101 && t.ime == .disabled && t.cycles == 1) = true := by decide
theorem test_r382_fb :
    runs { base with ime := .disabled } [0xFB] (fun t =>
      t.f == 0x00 && t.pc == 0x0101 && t.ime == .pending && t.cycles == 1) = true := by decide
theorem test_r383_d9 :
    runs { base with sp := 0xFFFC, ime := .disabled, mem := [(0xFFFD, 0x02)] } [0xD9] (fun t =>
      t.f == 0x00 && t.sp == 0xFFFE && t.pc == 0x0200 && t.ime == .enabled && t.cycles == 4) = true := by decide
theorem test_r384_76 :
    runs { base with ime := .disabled } [0x76] (fun t =>
      t.f == 0x00 && t.pc == 0x0101 && t.halted && t.cycles == 1) = true := by decide
theorem test_r382_fb_2 :
    runs { base with ime := .pending } [0xFB] (fun t =>
      t.f == 0x00 && t.pc == 0x0101 && t.ime == .enabled && t.cycles == 1) = true := by decide
theorem test_r381_f3_2 :
    runs { base with ime := .pending } [0xF3] (fun t =>
      t.f == 0x00 && t.pc == 0x0101 && t.ime == .disabled && t.cycles == 1) = true := by decide
theorem test_r384_76_2 :
    runs { base with ime := .pending, pc := 0x0200, inputs := [request] } [0x76] (fun t =>
      t.f == 0x00 && t.pc == 0x0201 && t.haltBug && t.ime == .enabled && t.cycles == 1) = true := by decide
theorem test_r385_10 :
    runs base [0x10, 0x00] (fun t =>
      t.f == 0x00 && t.pc == 0x0102 && t.stopped && t.cycles == 1) = true := by decide

/-! ### Steps that execute no instruction, and the other corners of R384, R386, R401, R407 and R414 -/

theorem test_r386_halted_no_request :
    runs { base with halted := true } [0x3C] (fun t => t.halted && t.a == 0x00 && t.pc == 0x0100 && t.cycles == 1 && t.busLog == []) = true := by
  decide
theorem test_r386_halted_request :
    runs { base with halted := true, inputs := [request] } [0x3C] (fun t => !t.halted && t.a == 0x00 && t.pc == 0x0100) = true := by
  decide
theorem test_r386_stopped_request :
    runs { base with stopped := true, halted := true, inputs := [request] } [0x3C] (fun t => t.stopped && t.halted) = true := by decide
theorem test_r384_halt_request_enabled :
    (match exec .halt { base with ime := .enabled, inputs := [request] } with
      | .next t => !t.halted && !t.haltBug && t.pc == 0x0101 | _ => false) = true := by decide
theorem test_r112_halt_bug_reads_first_byte_twice :
    runs { base with haltBug := true } [0x3E] (fun t => t.a == 0x3E && t.pc == 0x0101 && !t.haltBug) = true := by decide
theorem test_r414_wake_then_runs :
    runs { base with stopped := true, inputs := [{ BoundaryInput.idle with wake := true }] } [0x3C]
      (fun t => !t.stopped && t.a == 0x01) = true := by decide
theorem test_r401_invalid :
    step (base.placeAt 0 [0xD3]) =
      .fault (.invalidOpcode 0xD3 false { base.placeAt 0 [0xD3] with busLog := [.read 0x0100 0xD3] }) := rfl
theorem test_r401_invalid_pending :
    (match step (({ base with ime := .pending, haltBug := true } : State).placeAt 0 [0xFD]) with
      | .fault (.invalidOpcode b p t) =>
        b == 0xFD && !p && t.ime == .pending && t.haltBug && t.pc == 0x0100 && t.cycles == 0 && t.busLog.length == 1
      | _ => false) = true := by decide
/-- Wake() at the boundary of a step that reports InvalidOpcode: the state left is woken, its input used up (log 8, log 10). -/
theorem test_r414_wake_then_invalid :
    (match step (({ base with stopped := true, inputs := [{ BoundaryInput.idle with wake := true }] } : State).placeAt 0 [0xDD]) with
      | .fault (.invalidOpcode b _ t) => b == 0xDD && !t.stopped && t.inputs == []
      | _ => false) = true := by decide
theorem test_r407_entry :
    runs { base with ime := .enabled, halted := true, pc := 0x0150, sp := 0xFFFE, inputs := [request] } [] (fun t =>
      t.sp == 0xFFFC && t.mem.read 0xFFFD == 0x01 && t.mem.read 0xFFFC == 0x50 && t.pc == 0x0040 && t.ime == .disabled &&
      !t.halted && t.cycles == 5) = true := by decide
theorem test_r407_entry_after_halt_bug :
    (match serviceInterrupt { base with ime := .enabled, haltBug := true, pc := 0x0202, sp := 0xFFFE } 0x0050 with
      | .next t => t.mem.read 0xFFFD == 0x02 && t.mem.read 0xFFFC == 0x01 && t.pc == 0x0050 && !t.haltBug | _ => false) = true := by
  decide
theorem test_r407_contract : serviceInterrupt { base with ime := .pending } 0x0040 = .fault .contractViolation := rfl
theorem test_r320_acc_rot_z_clear :
    runs { base with f := 0x80, params := { Params.spec with accRotZ := .clear } } [0x07] (fun t => t.f == 0x00) = true := by decide
theorem test_r78_read_modify_write_order :
    runs { base with h := 0xC0, mem := [(0xC000, 0x50)] } [0x34] (fun t =>
      t.busLog == [.write 0xC000 0x51, .read 0xC000 0x50, .read 0x0100 0x34]) = true := by decide
theorem test_r405_platform_priority :
    (BoundaryInput.ofPlatform 0x1F 0x14 false).vector = 0x0050 ∧ (BoundaryInput.ofPlatform 0x01 0x14 false).irqPending = false := by
  decide

/-! ### Witnesses: for every statement with hypotheses, states and operands that meet all of them, one for each clause -/

/-- `base` with a CPL placed, the state that most witnesses step from. -/
def atCpl : State := base.placeAt 0 [0x2F]

/-- A state at whose boundary an interrupt is serviced. -/
def serving : State := { base with ime := .enabled, sp := 0xFFFE, inputs := [request] }

theorem not_services_base : ¬ Services base := by unfold Services; decide
theorem awake_atCpl : Awake atCpl := by unfold Awake Services; decide
theorem nop_not_transfers : ¬ Transfers .nop := by
  rintro (⟨_, h⟩ | h | ⟨cc, _, h⟩ | ⟨_, h⟩ | ⟨cc, _, h⟩ | ⟨_, h⟩ | ⟨cc, _, h⟩ | h | ⟨cc, h⟩ | h | ⟨y, h⟩) <;>
    first | (cases h) | (cases cc <;> cases h) | (cases y <;> cases h)
theorem cpl_not_transfers : ¬ Transfers .cpl := by
  rintro (⟨_, h⟩ | h | ⟨cc, _, h⟩ | ⟨_, h⟩ | ⟨cc, _, h⟩ | ⟨_, h⟩ | ⟨cc, _, h⟩ | h | ⟨cc, h⟩ | h | ⟨y, h⟩) <;>
    first | (cases h) | (cases cc <;> cases h) | (cases y <;> cases h)
theorem nop_not_writesSP : ¬ WritesSP .nop := by
  rintro (⟨_, h⟩ | h | ⟨_, h⟩ | h | h | ⟨p, h⟩ | ⟨p, h⟩ | ⟨_, h⟩ | ⟨p, _, h⟩ | ⟨p, h⟩ | h | ⟨p, h⟩ | h) <;>
    first | (cases h) | (cases p <;> cases h)
theorem nop_not_writesFlags : ¬ WritesFlags .nop := by
  rintro (⟨op, x, h⟩ | ⟨x, h⟩ | ⟨x, h⟩ | h | h | h | ⟨p, h⟩ | ⟨_, h⟩ | ⟨_, h⟩ | h | ⟨op, x, h⟩ | ⟨op, x, h⟩ | ⟨p, h⟩ | h)
  · revert h
    cases op <;> (rcases x with r | _ | n) <;> (first | cases r | skip) <;> (intro h; cases h)
  all_goals first
    | (cases h)
    | (cases p <;> cases h)
    | (revert h; (rcases x with r | _) <;> (first | cases r | skip) <;> (intro h; cases h))
    | (revert h; cases op <;> (rcases x with r | _) <;> (first | cases r | skip) <;> (intro h; cases h))

theorem witness_DecodeOfEncode : Instr.set_7_A.wellFormed = true ∧ (Instr.invalid 0xFD).wellFormed = true := by decide
theorem witness_EncodeOfDecode : decode [0xFA, 0xFF, 0xFF, 0x00] = .ok (.ld_A_ma16 0xFFFF, [0x00]) := rfl
theorem witness_FirstByteFixesLength :
    (0x00 : Byte) ∉ INVALID11 ∧ lengthOf 0x00 = 1 ∧ (0xCB : Byte) ∉ INVALID11 ∧ lengthOf 0xCB = 2 ∧ (0xFE : Byte) ∉ INVALID11 ∧
    lengthOf 0xFE = 2 ∧ (0xFA : Byte) ∉ INVALID11 ∧ lengthOf 0xFA = 3 ∧ ¬ lengthOf 0xFA ≤ [(0xFA : Byte), 0x00].length := by decide
theorem witness_ElevenInvalidOpcodes :
    (0xD3 : Byte) ∈ INVALID11 ∧ (0xFD : Byte) ∈ INVALID11 ∧ decode [0xD3] = .ok (.invalid 0xD3, []) ∧
    decode [0xD4, 0x00, 0x00] = .ok (.call_NC_a16 0x0000, []) := ⟨by decide, by decide, rfl, rfl⟩
theorem witness_RegisterViews : PairName.hl ≠ .af ∧ PairName.sp ≠ .af ∧ PairName.pc ≠ .af := by decide
theorem witness_CanonicalMemoryUnique :
    ∃ m m' : Memory, m.wf = true ∧ m'.wf = true ∧ (∀ k < 65536, m.read k = m'.read k) ∧ m ≠ [] :=
  ⟨[(0, 0x01), (65535, 0xFF)], [(0, 0x01), (65535, 0xFF)], by decide, by decide, fun _ _ => rfl, by decide⟩
theorem witness_FlatBusReadsLastWrite : base.params.bus = .flat := rfl
theorem witness_StepRunsDecodedInstruction_one :
    Awake atCpl ∧ decode (atCpl.wakeIfAsked.fetchFrom 0 1).1 = .ok (.cpl, []) := ⟨awake_atCpl, rfl⟩
theorem witness_StepRunsDecodedInstruction_three :
    ∃ s : State, Awake s ∧ decode (s.wakeIfAsked.fetchFrom 0 3).1 = .ok (.jp_a16 0xC3C3, []) :=
  ⟨({ base with haltBug := true, pc := 0xFFFF } : State).placeAt 0 [0xC3, 0xC3, 0xC3],
    by unfold Awake Services; decide, by decide⟩
theorem witness_SleepingStep_stopped :
    ∃ s : State, ¬ Services s ∧ s.wakeIfAsked.stopped = true ∧ s.halted = true ∧ s.irqPending = true :=
  ⟨{ base with stopped := true, halted := true, inputs := [request] }, by unfold Services; decide, by decide, by decide, by decide⟩
theorem witness_SleepingStep_halted :
    ∃ s : State, ¬ Services s ∧ s.wakeIfAsked.stopped = false ∧ s.halted = true ∧ s.stopped = true :=
  ⟨{ base with halted := true, stopped := true, inputs := [{ request with wake := true }] },
    by unfold Services; decide, by decide, by decide, by decide⟩
theorem witness_InterruptEntry :
    base.ime ≠ .enabled ∧ serving.ime = .enabled ∧
    (∃ s : State, s.ime = .enabled ∧ s.haltBug = true ∧ s.params.haltBugIrqReturn = .pcMinus1) ∧
    ∃ s : State, s.ime = .enabled ∧ s.haltBug = true ∧ s.params.haltBugIrqReturn = .pc :=
  ⟨by decide, by decide, ⟨{ serving with haltBug := true }, rfl, rfl, rfl⟩,
    ⟨{ serving with haltBug := true, params := { Params.spec with haltBugIrqReturn := .pc } }, rfl, rfl, rfl⟩⟩
theorem witness_InterruptAtBoundary :
    Services serving ∧ ¬ Services base ∧ ¬ Services { serving with ime := .pending } ∧ ¬ Services { serving with inputs := [] } := by
  unfold Services; decide
theorem witness_WakeLeavesStopped :
    base.stopped = false ∧ ∃ s : State, s.stopped = true ∧ s.input.wake = true :=
  ⟨rfl, { base with stopped := true, inputs := [{ request with wake := true }] }, rfl, rfl⟩
theorem witness_InvalidByteFaults_core :
    ∃ s : State, s.busValue s.pc ∈ INVALID11 ∧ s.stopped = false ∧ s.halted = false ∧ s.params.bus = .flat :=
  ⟨base.placeAt 0 [0xF4], by decide, rfl, rfl, rfl⟩
theorem witness_InvalidByteFaults_step :
    ∃ s : State, Awake s ∧ s.busValue s.pc ∈ INVALID11 ∧ s.haltBug = true ∧ s.ime = .pending ∧ s.stopped = true :=
  ⟨({ base with haltBug := true, ime := .pending, stopped := true,
                inputs := [{ BoundaryInput.idle with wake := true }] } : State).placeAt 0 [0xEB],
    by unfold Awake Services; decide, by decide, rfl, rfl, rfl⟩
theorem witness_OnlyInvalidOpcodeStops :
    (∃ t, step base = .next t) ∧ ∃ s b t, step s = .fault (.invalidOpcode b false t) :=
  ⟨⟨_, rfl⟩, base.placeAt 0 [0xED], 0xED, _, rfl⟩
theorem witness_ImeStateMachine :
    (∃ s t, step s = .next t ∧ Services s) ∧ (∃ s t, step s = .next t ∧ Awake s ∧ s.ime = .pending) ∧
    ∃ s t, step s = .next t ∧ ¬ Services s ∧ ¬ Awake s ∧ s.ime = .pending :=
  ⟨⟨serving, _, rfl, by unfold Services; decide⟩,
    ⟨({ base with ime := .pending } : State).placeAt 0 [0xFB], _, rfl, by unfold Awake Services; decide, rfl⟩,
    ⟨{ base with ime := .pending, halted := true }, _, rfl, by unfold Services; decide, by unfold Awake Services; decide, rfl⟩⟩
theorem witness_StepKeepsSound : ∃ s t, Sound s ∧ step s = .next t ∧ s.mem ≠ [] ∧ s.f ≠ 0 :=
  ⟨({ base with f := 0xF0, sp := 0x0001 } : State).placeAt 0 [0xF5], _, by unfold Sound; decide, rfl, by decide, by decide⟩
theorem witness_EveryInstructionCompletes : ¬ Invalid .nop := fun ⟨_, h⟩ => by cases h
theorem witness_AdvanceExactlyOnce_step :
    ∃ s t, Awake s ∧ step s = .next t ∧ ¬ Transfers (fetchInstr s.wakeIfAsked).instr :=
  ⟨atCpl, _, awake_atCpl, rfl, cpl_not_transfers⟩
theorem witness_AdvanceExactlyOnce_exec : ¬ Transfers .nop ∧ (∃ t, exec .nop base = .next t) ∧
    (encode .set_7_A).head? = some 0xCB ∧ Instr.set_7_A.wellFormed = true := ⟨nop_not_transfers, ⟨_, rfl⟩, rfl, rfl⟩
theorem witness_FlagWriters :
    (∃ t, exec .nop base = .next t) ∧ ¬ WritesFlags .nop ∧ (∃ t, exec .cpl base = .next t) ∧ WritesFlags .cpl ∧ KeepsZ .cpl ∧
    KeepsC .cpl ∧ ∃ t, exec .daa base = .next t :=
  ⟨⟨_, rfl⟩, nop_not_writesFlags, ⟨_, rfl⟩, by simp [WritesFlags], by simp [KeepsZ], by simp [KeepsC], ⟨_, rfl⟩⟩
theorem witness_StackPointerWriters : ¬ WritesSP .nop ∧ ∃ t, exec .nop base = .next t := ⟨nop_not_writesSP, _, rfl⟩
theorem witness_ControlStateWriters :
    (∃ t, exec .ei base = .next t ∧ t.ime ≠ base.ime) ∧ (∃ t, exec .halt base = .next t ∧ t.halted ≠ base.halted) ∧
    (∃ t, exec .halt { base with inputs := [request] } = .next t ∧ t.haltBug = true) ∧
    ∃ t, exec (.stop 0xFF) base = .next t ∧ t.stopped ≠ base.stopped :=
  ⟨⟨_, rfl, by decide⟩, ⟨_, rfl, by decide⟩, ⟨_, rfl, rfl⟩, ⟨_, rfl, by decide⟩⟩
theorem witness_MemoryChangesByLoggedWrites :
    (∃ t, exec .inc_mHL base = .next t) ∧ ∃ s t, step s = .next t ∧ t.busLog.length = 5 :=
  ⟨⟨_, rfl⟩, base.placeAt 0 [0xCD, 0x00, 0x20], _, rfl, by decide⟩
theorem witness_EnvHidesStorage_sleeping :
    ∃ s t n, s.params.bus = .env n ∧ step s = .next t :=
  ⟨{ base with halted := true, params := { Params.spec with bus := .env 0 } }, _, 0, rfl, rfl⟩
theorem witness_EnvHidesStorage_serving :
    ∃ s t n, s.params.bus = .env n ∧ Services s ∧ step s = .next t :=
  ⟨{ serving with params := { Params.spec with bus := .env 1 } }, _, 1, rfl, by unfold Services; decide, rfl⟩
theorem witness_CostsDoNotFeedBack :
    (∃ s t, s.params.bus = .flat ∧ step s = .next t ∧ t.cycles = 1) ∧ ∃ s t, s.params.bus = .flat ∧ step s = .next t ∧ t.cycles = 6 :=
  ⟨⟨atCpl, _, rfl, rfl, by decide⟩, base.placeAt 0 [0xCD, 0x00, 0x20], _, rfl, rfl, by decide⟩
theorem witness_StackRoundTrips : base.params.bus = .flat ∧ base.f &&& 0x0F = 0 := by decide
theorem witness_SubtractFromA : ∀ op ∈ [AluOp.sub, .sbc, .cp], op = .sub ∨ op = .sbc ∨ op = .cp := by decide
theorem witness_LogicOnA : ∀ op ∈ [AluOp.and, .xor, .or], op = .and ∨ op = .xor ∨ op = .or := by decide
theorem witness_RotateLeft : ∀ op ∈ [RotOp.rlc, .rl, .sla, .swap], op = .rlc ∨ op = .rl ∨ op = .sla ∨ op = .swap := by decide
theorem witness_RotateRight : ∀ op ∈ [RotOp.rrc, .rr, .sra, .srl], op = .rrc ∨ op = .rr ∨ op = .sra ∨ op = .srl := by decide

end Sys2Proof.Tests
end

/-! ## What an instruction can do

The statements over all instructions below are case analyses of `Effect`, and `effect_of_exec` ties it to `exec`. -/

namespace Sys2Proof.Machine

/-- Everything an instruction can do, said once: the state in which an instruction that completes leaves the machine, by family,
single instruction, and branch of a conditional instruction. An invalid opcode has no effect: it never completes (R401). -/
inductive Effect : Instr → State → State → Prop where
  | ldRR (dst r : Reg8) (s : State) :
      Effect (Instr.ldRR dst r) s (((s.set8 dst (s.get8 r)).advance 1).spend 1)
  | ldRI (dst : Reg8) (n : Byte) (s : State) : Effect (Instr.ldRI dst n) s (((s.set8 dst n).advance 2).spend 2)
  | ldRM (dst : Reg8) (s : State) :
      Effect (Instr.ldRM dst) s ((((s.busRead s.hl).2.set8 dst (s.busValue s.hl)).advance 1).spend 2)
  | ldMR (r : Reg8) (s : State) : Effect (Instr.ldMR r) s (((s.busWrite s.hl (s.get8 r)).advance 1).spend 2)
  | ldAInd (x : IndA) (s : State) :
      Effect (Instr.ldAInd x) s
        ((((s.busRead (x.addr s)).2.set8 .a (s.busValue (x.addr s))).advance x.length).spend x.cost)
  | stAInd (x : IndA) (s : State) :
      Effect (Instr.stAInd x) s (((s.busWrite (x.addr s) s.a).advance x.length).spend x.cost)
  | ldAPost (x : PostHL) (s : State) :
      Effect (Instr.ldAPost x) s
        (((((s.busRead s.hl).2.set8 .a (s.busValue s.hl)).setHL (s.hl + x.delta)).advance 1).spend 2)
  | stAPost (x : PostHL) (s : State) :
      Effect (Instr.stAPost x) s ((((s.busWrite s.hl s.a).setHL (s.hl + x.delta)).advance 1).spend 2)
  | ldRRI (p : Reg16) (nn : Word) (s : State) : Effect (Instr.ldRRI p nn) s (((s.set16 p nn).advance 3).spend 3)
  | push (p : Reg16S) (s : State) : Effect (Instr.push p) s (((s.push16 (s.get16s p)).advance 1).spend 4)
  | pop (p : Reg16S) (s : State) : Effect (Instr.pop p) s (((s.pop16.2.set16s p s.pop16.1).advance 1).spend 3)
  | alu (op : AluOp) (x : AluSrc) (s : State) (o : AluOut) (ho : o = aluOut op s.a (s.readSrc x).1 s.flagC) :
      Effect (Instr.alu op x) s
        (((((s.readSrc x).2.set8 .a o.a).setFlags o.z o.n o.h o.c).advance (aluLength x)).spend (aluCost x))
  | inc8 (x : Loc8) (s : State) (o : Result8) (ho : o = add8 (s.readLoc x).1 1) :
      Effect (Instr.inc8 x) s
        (((((s.readLoc x).2.writeLoc x o.result).setFlags (decide (o.result = 0)) false o.halfcarry s.flagC).advance 1).spend
          (incCost x))
  | dec8 (x : Loc8) (s : State) (o : Result8) (ho : o = sub8 (s.readLoc x).1 1) :
      Effect (Instr.dec8 x) s
        (((((s.readLoc x).2.writeLoc x o.result).setFlags (decide (o.result = 0)) true o.halfcarry s.flagC).advance 1).spend
          (incCost x))
  | inc16 (p : Reg16) (s : State) : Effect (Instr.inc16 p) s (((s.set16 p (s.get16 p + 1)).advance 1).spend 2)
  | dec16 (p : Reg16) (s : State) : Effect (Instr.dec16 p) s (((s.set16 p (s.get16 p - 1)).advance 1).spend 2)
  | addHL (p : Reg16) (s : State) (o : Result16) (ho : o = add16 s.hl (s.get16 p)) :
      Effect (Instr.addHL p) s
        ((((s.setHL o.result).setFlags s.flagZ false o.halfcarry o.carry).advance 1).spend 2)
  | rotA (x : AccRot) (s : State) (o : RotOut) (ho : o = rotOut x.toRot s.a s.flagC) :
      Effect (Instr.rotA x) s
        ((((s.set8 .a o.result).setFlags s.accRotFlagZ false false o.carry).advance 1).spend 1)
  | rot (op : RotOp) (x : Loc8) (s : State) (o : RotOut) (ho : o = rotOut op (s.readLoc x).1 s.flagC) :
      Effect (Instr.rot op x) s
        (((((s.readLoc x).2.writeLoc x o.result).setFlags (decide (o.result = 0)) false false o.carry).advance 2).spend
          (cbCost x))
  | bit (b : Sel3) (x : Loc8) (s : State) :
      Effect (Instr.bit b x) s
        ((((s.readLoc x).2.setFlags (!Machine.bit (s.readLoc x).1 b.toNat) false true s.flagC).advance 2).spend (bitCost x))
  | res (b : Sel3) (x : Loc8) (s : State) :
      Effect (Instr.res b x) s
        ((((s.readLoc x).2.writeLoc x ((s.readLoc x).1 &&& ~~~ bitMask b)).advance 2).spend (cbCost x))
  | set (b : Sel3) (x : Loc8) (s : State) :
      Effect (Instr.set b x) s
        ((((s.readLoc x).2.writeLoc x ((s.readLoc x).1 ||| bitMask b)).advance 2).spend (cbCost x))
  | jpCC (cc : Cond) (nn : Word) (s : State) (hc : s.cond cc = true) :
      Effect (Instr.jpCC cc nn) s ((s.writePC nn).spend 4)
  | jpCC_not (cc : Cond) (nn : Word) (s : State) (hc : s.cond cc = false) :
      Effect (Instr.jpCC cc nn) s ((s.advance 3).spend 3)
  | jrCC (cc : Cond) (e : Byte) (s : State) (hc : s.cond cc = true) :
      Effect (Instr.jrCC cc e) s ((s.writePC (s.relTarget e)).spend 3)
  | jrCC_not (cc : Cond) (e : Byte) (s : State) (hc : s.cond cc = false) :
      Effect (Instr.jrCC cc e) s ((s.advance 2).spend 2)
  | callCC (cc : Cond) (nn : Word) (s : State) (hc : s.cond cc = true) :
      Effect (Instr.callCC cc nn) s (((s.push16 (s.nextPC 3)).writePC nn).spend 6)
  | callCC_not (cc : Cond) (nn : Word) (s : State) (hc : s.cond cc = false) :
      Effect (Instr.callCC cc nn) s ((s.advance 3).spend 3)
  | retCC (cc : Cond) (s : State) (hc : s.cond cc = true) :
      Effect (Instr.retCC cc) s ((s.pop16.2.writePC s.pop16.1).spend 5)
  | retCC_not (cc : Cond) (s : State) (hc : s.cond cc = false) :
      Effect (Instr.retCC cc) s ((s.advance 1).spend 2)
  | rst (y : Sel3) (s : State) :
      Effect (Instr.rst y) s (((s.push16 (s.nextPC 1)).writePC (rstTarget y)).spend 4)
  | nop (s : State) : Effect .nop s ((s.advance 1).spend 1)
  | ld_ma16_SP (nn : Word) (s : State) :
      Effect (.ld_ma16_SP nn) s
        ((((s.busWrite nn (lo s.sp)).busWrite (nn + 1) (hi s.sp)).advance 3).spend 5)
  | stop (n : Byte) (s : State) : Effect (.stop n) s ((({ s with stopped := true }).advance 2).spend 1)
  | jr_e8 (e : Byte) (s : State) : Effect (.jr_e8 e) s ((s.writePC (s.relTarget e)).spend 3)
  | daa (s : State) (o : DaaOut) (ho : o = daaOut s.a s.flagN s.flagH s.flagC) :
      Effect .daa s ((((s.set8 .a o.a).setFlags (decide (o.a = 0)) s.flagN false o.c).advance 1).spend 1)
  | cpl (s : State) :
      Effect .cpl s ((((s.set8 .a (s.a ^^^ 0xFF)).setFlags s.flagZ true true s.flagC).advance 1).spend 1)
  | ld_mHL_d8 (n : Byte) (s : State) : Effect (.ld_mHL_d8 n) s (((s.busWrite s.hl n).advance 2).spend 3)
  | scf (s : State) : Effect .scf s (((s.setFlags s.flagZ false false true).advance 1).spend 1)
  | ccf (s : State) : Effect .ccf s (((s.setFlags s.flagZ false false (!s.flagC)).advance 1).spend 1)
  | halt (s : State) :
      Effect .halt s
        { s with
          pc := s.nextPC 1
          halted := s.halted || !s.irqPending
          haltBug := s.irqPending && decide (s.ime ≠ .enabled)
          cycles := s.cycles + 1 }
  | jp_a16 (nn : Word) (s : State) : Effect (.jp_a16 nn) s ((s.writePC nn).spend 4)
  | ret (s : State) : Effect .ret s ((s.pop16.2.writePC s.pop16.1).spend 4)
  | call_a16 (nn : Word) (s : State) : Effect (.call_a16 nn) s (((s.push16 (s.nextPC 3)).writePC nn).spend 6)
  | reti (s : State) :
      Effect .reti s (({ s.pop16.2.writePC s.pop16.1 with ime := .enabled } : State).spend 4)
  | add_SP_e8 (e : Byte) (s : State) (o : Result16) (ho : o = addSPe s.sp e) :
      Effect (.add_SP_e8 e) s
        (((({ s with sp := o.result }).setFlags false false o.halfcarry o.carry).advance 2).spend 4)
  | jp_HL (s : State) : Effect .jp_HL s ((s.writePC s.hl).spend 1)
  | di (s : State) : Effect .di s ((({ s with ime := .disabled }).advance 1).spend 1)
  | ld_HL_SPe8 (e : Byte) (s : State) (o : Result16) (ho : o = addSPe s.sp e) :
      Effect (.ld_HL_SPe8 e) s
        ((((s.setHL o.result).setFlags false false o.halfcarry o.carry).advance 2).spend 3)
  | ld_SP_HL (s : State) : Effect .ld_SP_HL s ((({ s with sp := s.hl }).advance 1).spend 2)
  | ei (s : State) :
      Effect .ei s
        { s with
          pc := s.nextPC 1
          ime := if s.ime = .enabled then .enabled else .pending
          haltBug := false
          cycles := s.cycles + 1 }

/-- An instruction that completes has one of the effects. -/
theorem effect_of_exec {i : Instr} {s t : State} (h : exec i s = .next t) : Effect i s t := by
  induction i using instr_cases with
  | h_ldRR dst r => rw [exec_ldRR] at h; cases h; exact .ldRR dst r s
  | h_ldRI dst n => rw [exec_ldRI] at h; cases h; exact .ldRI dst n s
  | h_ldRM dst => rw [exec_ldRM] at h; cases h; exact .ldRM dst s
  | h_ldMR r => rw [exec_ldMR] at h; cases h; exact .ldMR r s
  | h_ldAInd x => rw [exec_ldAInd] at h; cases h; exact .ldAInd x s
  | h_stAInd x => rw [exec_stAInd] at h; cases h; exact .stAInd x s
  | h_ldAPost x => rw [exec_ldAPost] at h; cases h; exact .ldAPost x s
  | h_stAPost x => rw [exec_stAPost] at h; cases h; exact .stAPost x s
  | h_ldRRI p nn => rw [exec_ldRRI] at h; cases h; exact .ldRRI p nn s
  | h_push p => rw [exec_push] at h; cases h; exact .push p s
  | h_pop p => rw [exec_pop] at h; cases h; exact .pop p s
  | h_alu op x => rw [exec_alu] at h; cases h; exact .alu op x s _ rfl
  | h_inc8 x => rw [exec_inc8] at h; cases h; exact .inc8 x s _ rfl
  | h_dec8 x => rw [exec_dec8] at h; cases h; exact .dec8 x s _ rfl
  | h_inc16 p => rw [exec_inc16] at h; cases h; exact .inc16 p s
  | h_dec16 p => rw [exec_dec16] at h; cases h; exact .dec16 p s
  | h_addHL p => rw [exec_addHL] at h; cases h; exact .addHL p s _ rfl
  | h_rotA x => rw [exec_rotA] at h; cases h; exact .rotA x s _ rfl
  | h_rot op x => rw [exec_rot] at h; cases h; exact .rot op x s _ rfl
  | h_bit b x => rw [exec_bit] at h; cases h; exact .bit b x s
  | h_res b x => rw [exec_res] at h; cases h; exact .res b x s
  | h_set b x => rw [exec_set] at h; cases h; exact .set b x s
  | h_jpCC cc nn =>
    rw [exec_jpCC, jumpIf] at h
    split at h <;> rename_i hc <;> cases h
    · exact .jpCC cc nn s hc
    · exact .jpCC_not cc nn s (by simpa using hc)
  | h_jrCC cc e =>
    rw [exec_jrCC, jumpRelIf] at h
    split at h <;> rename_i hc <;> cases h
    · exact .jrCC cc e s hc
    · exact .jrCC_not cc e s (by simpa using hc)
  | h_callCC cc nn =>
    rw [exec_callCC, callIf] at h
    split at h <;> rename_i hc <;> cases h
    · exact .callCC cc nn s hc
    · exact .callCC_not cc nn s (by simpa using hc)
  | h_retCC cc =>
    rw [exec_retCC, returnIf] at h
    split at h <;> rename_i hc <;> cases h
    · exact .retCC cc s hc
    · exact .retCC_not cc s (by simpa using hc)
  | h_rst y => rw [exec_rst] at h; cases h; exact .rst y s
  | h_nop => cases h; exact .nop s
  | h_ld_ma16_SP nn => cases h; exact .ld_ma16_SP nn s
  | h_stop n => cases h; exact .stop n s
  | h_jr_e8 e => cases h; exact .jr_e8 e s
  | h_daa => cases h; exact .daa s _ rfl
  | h_cpl => cases h; exact .cpl s
  | h_ld_mHL_d8 n => cases h; exact .ld_mHL_d8 n s
  | h_scf => cases h; exact .scf s
  | h_ccf => cases h; exact .ccf s
  | h_halt => rw [exec_halt_eq] at h; cases h; exact .halt s
  | h_jp_a16 nn => cases h; exact .jp_a16 nn s
  | h_ret => cases h; exact .ret s
  | h_call_a16 nn => cases h; exact .call_a16 nn s
  | h_invalid op => cases h
  | h_reti => cases h; exact .reti s
  | h_add_SP_e8 e => cases h; exact .add_SP_e8 e s _ rfl
  | h_jp_HL => cases h; exact .jp_HL s
  | h_di => cases h; exact .di s
  | h_ld_HL_SPe8 e => cases h; exact .ld_HL_SPe8 e s _ rfl
  | h_ld_SP_HL => cases h; exact .ld_SP_HL s
  | h_ei => rw [exec_ei_eq] at h; cases h; exact .ei s

end Sys2Proof.Machine

/-! ## Registers, flags, and the state at construction -/

namespace Sys2Proof.Machine

open Sys2Proof.Claims

theorem cat_eq_append (h l : Byte) : cat h l = h ++ l := by
  apply BitVec.eq_of_toNat_eq
  rw [cat_toNat, BitVec.toNat_append, ← Nat.shiftLeft_add_eq_or_of_lt l.isLt, Nat.shiftLeft_eq]

theorem cat_masked (h l : Byte) : cat h (l &&& 0xF0) = cat h l &&& 0xFFF0 := by
  have hm : (0xFFF0 : Word) = BitVec.allOnes 8 ++ (0xF0 : Byte) := rfl
  rw [cat_eq_append, cat_eq_append, hm, BitVec.and_append, BitVec.and_allOnes]

theorem State.readPair_writePair {p : PairName} (s : State) (w : Word) (h : p ≠ .af) : (s.writePair p w).readPair p = w := by
  cases p with
  | af => exact absurd rfl h
  | bc | de | hl => exact cat_hi_lo w
  | sp | pc => rfl

theorem State.readPair_writePair_af (s : State) (w : Word) : (s.writePair .af w).readPair .af = w &&& 0xFFF0 := by
  show cat (hi w) (lo w &&& 0xF0 &&& 0xF0) = _
  rw [cat_masked, cat_masked, cat_hi_lo, BitVec.and_assoc, BitVec.and_self]

theorem State.get8_set8 (s : State) (r q : Reg8) (v : Byte) : (s.set8 r v).get8 q = if q = r then v else s.get8 q := by
  by_cases h : q = r
  · simp [h]
  · simp [h, State.get8_set8_other s v h]

/-- Settles O10: the views by `cat`, `hi` and `lo`; a pair reads back because `cat (hi w) (lo w) = w`. -/
theorem registerViews : Obligations.RegisterViews := by
  intro s w v
  refine ⟨cat_toNat _ _, cat_toNat _ _, cat_toNat _ _, cat_toNat _ _, hi_toNat w, lo_toNat w, rfl, rfl, rfl, rfl, rfl, rfl,
    fun p => s.readPair_writePair w, s.readPair_writePair_af w, fun r q => s.get8_set8 r q v, fun r => ?_⟩
  cases r <;> rfl

@[simp] theorem State.flagZ_setFlags (s : State) (z n h c : Bool) : (s.setFlags z n h c).flagZ = z := by
  rw [State.flagZ_eq]; exact packFlags_z z n h c
@[simp] theorem State.flagN_setFlags (s : State) (z n h c : Bool) : (s.setFlags z n h c).flagN = n := by
  rw [State.flagN_eq]; exact packFlags_n z n h c
@[simp] theorem State.flagH_setFlags (s : State) (z n h c : Bool) : (s.setFlags z n h c).flagH = h := by
  rw [State.flagH_eq]; exact packFlags_h z n h c
@[simp] theorem State.flagC_setFlags (s : State) (z n h c : Bool) : (s.setFlags z n h c).flagC = c := by
  rw [State.flagC_eq]; exact packFlags_c z n h c

/-- Settles O11: every write of F goes through `& 0xF0`, and a flag reads back from the packed byte. -/
theorem flagByte : Obligations.FlagByte := by
  intro s v b x
  refine ⟨s.flagZ_eq, s.flagN_eq, s.flagH_eq, s.flagC_eq, masked_low _, rfl, ?_, ?_, fun y => ?_⟩
  · cases x <;> rfl
  · cases x <;> exact masked_low _
  · cases x <;> cases y <;> simp [State.writeFlag, State.readFlag]

/-- Settles O24. -/
theorem resetIsSound : Obligations.ResetIsSound := ⟨rfl, rfl⟩

/-- The nibble F[7:4] that RESET_REGS draws is found in the four flags, and F[3:0] is 0 (R45). -/
theorem nibble_in_high_bits (x : BitVec 4) :
    (BitVec.ofNat 8 (x.toNat * 16)).getLsbD 7 = x.getLsbD 3 ∧ (BitVec.ofNat 8 (x.toNat * 16)).getLsbD 6 = x.getLsbD 2 ∧
    (BitVec.ofNat 8 (x.toNat * 16)).getLsbD 5 = x.getLsbD 1 ∧ (BitVec.ofNat 8 (x.toNat * 16)).getLsbD 4 = x.getLsbD 0 ∧
    BitVec.ofNat 8 (x.toNat * 16) &&& 0x0F = 0 := by
  revert x; decide

/-- Settles O25. -/
theorem stateAtConstruction : Obligations.StateAtConstruction :=
  ⟨fun _ r => ⟨rfl, rfl, rfl, rfl, rfl, rfl, rfl, rfl, rfl, rfl, rfl, rfl, rfl, nibble_in_high_bits r.flags⟩,
    ⟨_, _, rfl⟩, by decide⟩

end Sys2Proof.Machine

/-! ## Which instructions write F, SP and the control state -/

namespace Sys2Proof.Machine

open Sys2Proof.Claims

/-- R36: an instruction outside the flag table keeps F. -/
theorem Effect.f_eq {i : Instr} {s t : State} (h : Effect i s t) : WritesFlags i ∨ t.f = s.f := by
  cases h with
  | pop p => cases p <;> simp [WritesFlags, Instr.pop, State.set16s]
  | alu | inc8 | dec8 | daa | scf | ccf | addHL | add_SP_e8 | ld_HL_SPe8 | cpl | bit | rot | rotA =>
    exact .inl (by simp [WritesFlags])
  | _ => exact .inr (by simp)

/-- R32: every instruction of the flag table stores F through `& 0xF0`. -/
theorem writesFlags_low {i : Instr} {s t : State} (hw : WritesFlags i) (h : exec i s = .next t) : t.f &&& 0x0F = 0 := by
  rcases hw with ⟨op, x, rfl⟩ | ⟨x, rfl⟩ | ⟨x, rfl⟩ | rfl | rfl | rfl | ⟨p, rfl⟩ | ⟨e, rfl⟩ | ⟨e, rfl⟩ | rfl |
    ⟨b, x, rfl⟩ | ⟨op, x, rfl⟩ | ⟨x, rfl⟩ | rfl
  · rw [exec_alu] at h; cases h; exact masked_low _
  · rw [exec_inc8] at h; cases h; exact masked_low _
  · rw [exec_dec8] at h; cases h; exact masked_low _
  · cases h; exact masked_low _
  · cases h; exact masked_low _
  · cases h; exact masked_low _
  · rw [exec_addHL] at h; cases h; exact masked_low _
  · cases h; exact masked_low _
  · cases h; exact masked_low _
  · cases h; exact masked_low _
  · rw [exec_bit] at h; cases h; exact masked_low _
  · rw [exec_rot] at h; cases h; exact masked_low _
  · rw [exec_rotA] at h; cases h; exact masked_low _
  · cases h; exact masked_low _

theorem keepsZ_zf {i : Instr} {s t : State} (hk : KeepsZ i) (h : exec i s = .next t) : zf t = zf s := by
  rcases hk with rfl | rfl | ⟨p, rfl⟩ | rfl
  · cases h; exact (packFlags_z _ _ _ _).trans s.flagZ_eq
  · cases h; exact (packFlags_z _ _ _ _).trans s.flagZ_eq
  · rw [exec_addHL] at h; cases h; exact (packFlags_z _ _ _ _).trans s.flagZ_eq
  · cases h; exact (packFlags_z _ _ _ _).trans s.flagZ_eq

theorem keepsC_cf {i : Instr} {s t : State} (hk : KeepsC i) (h : exec i s = .next t) : cf t = cf s := by
  rcases hk with ⟨x, rfl⟩ | ⟨x, rfl⟩ | rfl | ⟨b, x, rfl⟩
  · rw [exec_inc8] at h; cases h; exact (packFlags_c _ _ _ _).trans s.flagC_eq
  · rw [exec_dec8] at h; cases h; exact (packFlags_c _ _ _ _).trans s.flagC_eq
  · cases h; exact (packFlags_c _ _ _ _).trans s.flagC_eq
  · rw [exec_bit] at h; cases h; exact (packFlags_c _ _ _ _).trans s.flagC_eq

theorem daa_nf {s t : State} (h : exec .daa s = .next t) : nf t = nf s := by
  cases h; exact (packFlags_n _ _ _ _).trans s.flagN_eq

/-- Settles O28. -/
theorem flagWriters : Obligations.FlagWriters := by
  intro i s t h
  refine ⟨(effect_of_exec h).f_eq.resolve_left, fun hw => writesFlags_low hw h, fun hk => keepsZ_zf hk h,
    fun hk => keepsC_cf hk h, ?_⟩
  rintro rfl
  exact daa_nf h

/-- R33: an instruction outside the list keeps SP. -/
theorem Effect.sp_eq {i : Instr} {s t : State} (h : Effect i s t) : WritesSP i ∨ t.sp = s.sp := by
  cases h with
  | ldRRI p => cases p <;> simp [WritesSP, Instr.ldRRI, State.set16]
  | inc16 p => cases p <;> simp [WritesSP, Instr.inc16, State.set16]
  | dec16 p => cases p <;> simp [WritesSP, Instr.dec16, State.set16]
  | ld_SP_HL | add_SP_e8 | push | pop | call_a16 | callCC | rst | ret | retCC | reti =>
    exact .inl (by simp [WritesSP])
  | _ => exact .inr (by simp)

/-- Settles O29. -/
theorem stackPointerWriters : Obligations.StackPointerWriters :=
  fun _ _ _ hw h => (effect_of_exec h).sp_eq.resolve_left hw

/-- Settles O30: HALT, STOP, DI, EI and RETI are named in what they may change; every other effect keeps IME, `halted` and
`stopped` and leaves `haltBug` clear, by the frame lemmas of the operations it is made of. -/
theorem controlStateWriters : Obligations.ControlStateWriters := by
  intro i s t h
  cases effect_of_exec h with
  | halt => cases s.halted <;> simp
  | stop | di | ei | reti => simp
  | _ => simp

end Sys2Proof.Machine

/-! ## F[3:0] = 0 and the canonical form of memory are kept by every step -/

namespace Sys2Proof.Machine

open Sys2Proof.Claims

theorem State.busWrite_mem_wf {s : State} (x : Word) (v : Byte) (h : s.mem.wf = true) :
    (s.busWrite x v).mem.wf = true :=
  Memory.write_word_wf x v h

theorem State.push16_mem_wf {s : State} (w : Word) (h : s.mem.wf = true) : (s.push16 w).mem.wf = true :=
  Memory.write_word_wf _ _ (Memory.write_word_wf _ _ h)

theorem State.readLoc_writeLoc_mem_wf {s : State} (x : Loc8) (v : Byte) (h : s.mem.wf = true) :
    ((s.readLoc x).2.writeLoc x v).mem.wf = true := by
  cases x with
  | reg r => simpa using h
  | mHL => exact State.busWrite_mem_wf s.hl v h

theorem Effect.mem_wf {i : Instr} {s t : State} (h : Effect i s t) (hm : s.mem.wf = true) : t.mem.wf = true := by
  cases h with
  | ldMR | stAInd | stAPost | ld_mHL_d8 => exact State.busWrite_mem_wf _ _ hm
  | ld_ma16_SP => exact State.busWrite_mem_wf _ _ (State.busWrite_mem_wf _ _ hm)
  | push | callCC | call_a16 | rst =>
    simpa only [State.spend_mem, State.advance_mem, State.writePC_mem] using State.push16_mem_wf _ hm
  | inc8 | dec8 | rot | res | set => exact State.readLoc_writeLoc_mem_wf _ _ hm
  | _ => simpa using hm

theorem exec_keeps_sound {i : Instr} {s t : State} (hs : Sound s) (h : exec i s = .next t) : Sound t := by
  obtain ⟨hlow, hmem⟩ := hs
  have he := effect_of_exec h
  refine ⟨?_, he.mem_wf hmem⟩
  rcases he.f_eq with hw | hf
  · exact writesFlags_low hw h
  · rw [hf]; exact hlow

theorem serviceInterrupt_keeps_sound {s t : State} {v : Word} (hi : s.ime = .enabled) (hs : Sound s)
    (h : serviceInterrupt s v = .next t) : Sound t := by
  obtain ⟨hlow, hmem⟩ := hs
  rw [serviceInterrupt_eq v hi] at h
  cases h
  exact ⟨hlow, Memory.write_word_wf _ _ (Memory.write_word_wf _ _ hmem)⟩

theorem fetchInstr_keeps_sound {s : State} (hs : Sound s) : Sound (fetchInstr s).state := by
  obtain ⟨acc, -, -, h⟩ := fetchInstr_reads s
  rw [h]
  exact hs

/-- Settles O23: an interrupt entry pushes, a sleeping step touches neither F nor memory, and an executed instruction is a fetch
and an effect. -/
theorem stepKeepsSound : Obligations.StepKeepsSound := by
  intro s t hs h
  have hw : Sound s.wakeIfAsked := by simpa [Sound] using hs
  rcases step_cases h with ⟨⟨hi, -⟩, u, hu, rfl⟩ | ⟨-, -, rfl⟩ | ⟨-, -, -, rfl⟩ | ⟨-, -, -, u, hu, rfl⟩
  · exact serviceInterrupt_keeps_sound (t := u) (by simpa using hi) hw hu
  · exact hw
  · exact hw
  · simpa [Sound] using exec_keeps_sound (fetchInstr_keeps_sound hw) hu

end Sys2Proof.Machine

/-! ## On an ENV bus the storage is invisible

The operations commute with `State.withMem`; the one read of the storage, `State.busValue`, does not depend on it on an ENV bus.
Outcomes of the two runs are then related by `SameButMem`, from `exec` up to `step`. -/

namespace Sys2Proof.Machine

/-- `s` with other contents of the storage behind the bus. -/
def State.withMem (s : State) (m : Memory) : State := { s with mem := m }

section
variable (s : State) (m : Memory)

@[simp] theorem State.withMem_a : (s.withMem m).a = s.a := rfl
@[simp] theorem State.withMem_ime : (s.withMem m).ime = s.ime := rfl
@[simp] theorem State.withMem_hl : (s.withMem m).hl = s.hl := rfl
@[simp] theorem State.withMem_flagZ : (s.withMem m).flagZ = s.flagZ := rfl
@[simp] theorem State.withMem_flagC : (s.withMem m).flagC = s.flagC := rfl
@[simp] theorem State.withMem_accRotFlagZ : (s.withMem m).accRotFlagZ = s.accRotFlagZ := rfl
@[simp] theorem State.withMem_nextPC (n : Nat) : (s.withMem m).nextPC n = s.nextPC n := rfl
@[simp] theorem State.withMem_relTarget (e : Byte) : (s.withMem m).relTarget e = s.relTarget e := rfl
@[simp] theorem State.withMem_input : (s.withMem m).input = s.input := rfl
@[simp] theorem State.withMem_irqPending : (s.withMem m).irqPending = s.irqPending := rfl
@[simp] theorem State.withMem_get8 (r : Reg8) : (s.withMem m).get8 r = s.get8 r := by cases r <;> rfl
@[simp] theorem State.withMem_get16 (p : Reg16) : (s.withMem m).get16 p = s.get16 p := by cases p <;> rfl
@[simp] theorem State.withMem_get16s (p : Reg16S) : (s.withMem m).get16s p = s.get16s p := by cases p <;> rfl
@[simp] theorem State.withMem_cond (cc : Cond) : (s.withMem m).cond cc = s.cond cc := by cases cc <;> rfl
@[simp] theorem IndA.addr_withMem (x : IndA) : x.addr (s.withMem m) = x.addr s := by cases x <;> rfl

@[simp] theorem State.withMem_set8 (r : Reg8) (v : Byte) : (s.withMem m).set8 r v = (s.set8 r v).withMem m := by
  cases r <;> rfl
@[simp] theorem State.withMem_set16 (p : Reg16) (w : Word) : (s.withMem m).set16 p w = (s.set16 p w).withMem m := by
  cases p <;> rfl
@[simp] theorem State.withMem_set16s (p : Reg16S) (w : Word) :
    (s.withMem m).set16s p w = (s.set16s p w).withMem m := by
  cases p <;> rfl
@[simp] theorem State.withMem_setHL (w : Word) : (s.withMem m).setHL w = (s.setHL w).withMem m := rfl
@[simp] theorem State.withMem_setFlags (z n h c : Bool) :
    (s.withMem m).setFlags z n h c = (s.setFlags z n h c).withMem m := rfl
@[simp] theorem State.withMem_logAccess (x : BusAccess) :
    (s.withMem m).logAccess x = (s.logAccess x).withMem m := rfl
@[simp] theorem State.withMem_busWrite (x : Word) (v : Byte) :
    (s.withMem m).busWrite x v = (s.busWrite x v).withMem (m.write x.toNat v) := rfl
@[simp] theorem State.withMem_writePC (w : Word) : (s.withMem m).writePC w = (s.writePC w).withMem m := rfl
@[simp] theorem State.withMem_advance (n : Nat) : (s.withMem m).advance n = (s.advance n).withMem m := rfl
@[simp] theorem State.withMem_spend (n : Nat) : (s.withMem m).spend n = (s.spend n).withMem m := rfl
@[simp] theorem State.withMem_stepEnd (i : Ime) (x : Byte) :
    (s.withMem m).stepEnd i x = (s.stepEnd i x).withMem m := by
  unfold State.stepEnd; split <;> rfl
@[simp] theorem State.withMem_wakeIfAsked : (s.withMem m).wakeIfAsked = s.wakeIfAsked.withMem m := by
  by_cases h : s.input.wake = true <;> simp only [State.wakeIfAsked, State.withMem_input, h] <;> rfl
@[simp] theorem State.withMem_push16 (w : Word) :
    (s.withMem m).push16 w =
      (s.push16 w).withMem ((m.write (s.sp - 1).toNat (hi w)).write (s.sp - 1 - 1).toNat (lo w)) := rfl

/-- Storage `m` after a write of the operand `x` in the state `s`. -/
def State.storedIn (x : Loc8) (v : Byte) : Memory :=
  match x with
  | .reg _ => m
  | .mHL => m.write s.hl.toNat v

@[simp] theorem State.withMem_writeLoc (x : Loc8) (v : Byte) :
    (s.withMem m).writeLoc x v = (s.writeLoc x v).withMem (s.storedIn m x v) := by
  cases x with
  | reg r => exact State.withMem_set8 s m r v
  | mHL => rfl
end

/-- The second outcome is the first but for the storage, where the first goes on. -/
def SameButMem (o o' : Out) : Prop := ∀ t, o = .next t → ∃ m, o' = .next (t.withMem m)

@[simp] theorem sameButMem_next (t : State) (m : Memory) : SameButMem (.next t) (.next (t.withMem m)) := by
  rintro _ ⟨⟩
  exact ⟨m, rfl⟩

theorem SameButMem.ite {c : Prop} [Decidable c] {o o' p p' : Out} (ho : SameButMem o o') (hp : SameButMem p p') :
    SameButMem (if c then o else p) (if c then o' else p') := by
  split
  · exact ho
  · exact hp

section
variable {s : State} {n : Nat} (hb : s.params.bus = .env n) (m : Memory)
include hb

/-- On an ENV bus the answer does not depend on the storage. -/
theorem State.withMem_busValue (x : Word) : (s.withMem m).busValue x = s.busValue x := by
  simp [State.busValue, State.withMem, hb]

theorem State.withMem_busRead (x : Word) : (s.withMem m).busRead x = ((s.busRead x).1, (s.busRead x).2.withMem m) := by
  simp [State.busRead, State.withMem_busValue hb]

theorem State.withMem_pop16 : (s.withMem m).pop16 = (s.pop16.1, s.pop16.2.withMem m) := by
  simp [State.pop16, State.busRead, State.busValue, State.logAccess, State.withMem, hb]

theorem State.withMem_readLoc (x : Loc8) : (s.withMem m).readLoc x = ((s.readLoc x).1, (s.readLoc x).2.withMem m) := by
  cases x <;> simp [State.readLoc, State.busRead, State.withMem_busValue hb]

theorem State.withMem_readSrc (x : AluSrc) : (s.withMem m).readSrc x = ((s.readSrc x).1, (s.readSrc x).2.withMem m) := by
  cases x <;> simp [State.readSrc, State.busRead, State.withMem_busValue hb]

theorem State.withMem_fetchFrom (i k : Nat) :
    (s.withMem m).fetchFrom i k = ((s.fetchFrom i k).1, (s.fetchFrom i k).2.withMem m) := by
  induction k generalizing s i with
  | zero => rfl
  | succ k ih =>
    have hf : (s.withMem m).fetch i = ((s.fetch i).1, (s.fetch i).2.withMem m) := State.withMem_busRead hb m _
    have hq := ih (s := (s.fetch i).2) hb (i + 1)
    simp only [State.fetchFrom, hf, hq]

/-- With other contents of the storage an instruction does the same: what it reads on the bus is the same, and what it writes
goes to the storage and the record only. -/
theorem exec_withMem (i : Instr) : SameButMem (exec i s) (exec i (s.withMem m)) := by
  induction i using instr_cases with
  | h_ldRR dst r => simp [exec_ldRR, ldRegReg]
  | h_ldRI dst v => simp [exec_ldRI, ldRegImm]
  | h_ldRM dst => simp [exec_ldRM, ldRegMem, State.withMem_busRead hb]
  | h_ldMR r => simp [exec_ldMR, ldMemReg]
  | h_ldAInd x => simp [exec_ldAInd, loadA, State.withMem_busRead hb]
  | h_stAInd x => simp [exec_stAInd, storeA]
  | h_ldAPost x => simp [exec_ldAPost, loadAPost, State.withMem_busRead hb]
  | h_stAPost x => simp [exec_stAPost, storeAPost]
  | h_ldRRI p nn => simp [exec_ldRRI, ldPairImm]
  | h_push p => simp [exec_push, pushPair]
  | h_pop p => simp [exec_pop, popPair, State.withMem_pop16 hb]
  | h_alu op x => simp [exec_alu, aluA, State.withMem_readSrc hb]
  | h_inc8 x => simp [exec_inc8, incLoc, State.withMem_readLoc hb]
  | h_dec8 x => simp [exec_dec8, decLoc, State.withMem_readLoc hb]
  | h_inc16 p => simp [exec_inc16, incPair]
  | h_dec16 p => simp [exec_dec16, decPair]
  | h_addHL p => simp [exec_addHL, addHLPair]
  | h_rotA x => simp [exec_rotA, rotateA]
  | h_rot op x => simp [exec_rot, rotateLoc, State.withMem_readLoc hb]
  | h_bit b x => simp [exec_bit, testBit, State.withMem_readLoc hb]
  | h_res b x => simp [exec_res, resetBit, State.withMem_readLoc hb]
  | h_set b x => simp [exec_set, setBit, State.withMem_readLoc hb]
  | h_jpCC cc nn => simp only [exec_jpCC, jumpIf, State.withMem_cond]; exact .ite (by simp) (by simp)
  | h_jrCC cc e => simp only [exec_jrCC, jumpRelIf, State.withMem_cond]; exact .ite (by simp) (by simp)
  | h_callCC cc nn => simp only [exec_callCC, callIf, State.withMem_cond]; exact .ite (by simp) (by simp)
  | h_retCC cc =>
    simp only [exec_retCC, returnIf, State.withMem_cond, State.withMem_pop16 hb]
    exact .ite (by simp) (by simp)
  | h_rst y => simp [exec_rst, restart]
  | h_ret =>
    show SameButMem (returnSub s) (returnSub _)
    simp [returnSub, State.withMem_pop16 hb]
  | h_reti =>
    show SameButMem (exec_reti s) (exec_reti _)
    simp only [exec_reti, returnFromInterrupt, State.withMem_pop16 hb]
    exact sameButMem_next _ m
  | h_halt => simp only [exec_halt_eq]; exact sameButMem_next _ m
  | h_ei => simp only [exec_ei_eq]; exact sameButMem_next _ m
  | h_invalid => rintro _ ⟨⟩
  | _ => exact sameButMem_next _ _

theorem fetchInstr_withMem :
    fetchInstr (s.withMem m) = { fetchInstr s with state := (fetchInstr s).state.withMem m } := by
  have hf : (s.withMem m).fetch 0 = ((s.fetch 0).1, (s.fetch 0).2.withMem m) := State.withMem_busRead hb m _
  have hq (k : Nat) := State.withMem_fetchFrom (s := (s.fetch 0).2) hb m 1 k
  simp only [fetchInstr, hf, hq]

theorem instrStep_withMem : SameButMem (instrStep s) (instrStep (s.withMem m)) := by
  obtain ⟨acc, -, -, hs⟩ := fetchInstr_reads s
  have he := exec_withMem (s := (fetchInstr s).state) (by rw [hs]; exact hb) m (fetchInstr s).instr
  intro t ht
  obtain ⟨u, hu, rfl⟩ := mapNext_eq_next.mp ht
  obtain ⟨m', hm'⟩ := he u hu
  exact ⟨m', by simp [instrStep, fetchInstr_withMem hb, hm', mapNext]⟩

theorem coreStep_withMem : SameButMem (coreStep s) (coreStep (s.withMem m)) :=
  .ite (sameButMem_next _ m) (.ite (sameButMem_next _ m) (instrStep_withMem hb m))
end

theorem serviceInterrupt_withMem (s : State) (m : Memory) (v : Word) :
    SameButMem (serviceInterrupt s v) (serviceInterrupt (s.withMem m) v) :=
  .ite (sameButMem_next _ _) (by rintro _ ⟨⟩)

theorem SameButMem.endTurn {o o' : Out} (h : SameButMem o o') : SameButMem (endTurn o) (endTurn o') := by
  intro t ht
  obtain ⟨u, hu, rfl⟩ := endTurn_eq_next.mp ht
  obtain ⟨m, hm⟩ := h u hu
  exact ⟨m, by rw [hm]; rfl⟩

theorem step_withMem {s : State} {n : Nat} (hb : s.params.bus = .env n) (m : Memory) :
    SameButMem (step s) (step (s.withMem m)) := by
  simp only [step, boundary, State.withMem_wakeIfAsked, State.withMem_ime, State.withMem_irqPending, State.withMem_input]
  exact .ite (serviceInterrupt_withMem _ _ _).endTurn (coreStep_withMem (by simpa using hb) m).endTurn

/-- Settles O32. -/
theorem envHidesStorage : Obligations.EnvHidesStorage :=
  fun _ t _ m hb h => step_withMem hb m t h

end Sys2Proof.Machine

/-! ## Memory: its canonical form, the FLAT bus, and the record of accesses -/

namespace Sys2Proof.Machine

open Sys2Proof.Claims

/-- In canonical form from `n` on, nothing below `n` is listed. -/
theorem Memory.read_of_lt_wfFrom {m : Memory} {n a : Nat} (hw : Memory.wfFrom n m = true) (ha : a < n) :
    m.read a = unlistedByte := by
  induction m generalizing n with
  | nil => rfl
  | cons p m ih =>
    obtain ⟨k, v⟩ := p
    obtain ⟨hn, -, -, hm⟩ := (Memory.wfFrom_cons n k v m).mp hw
    simp [Memory.read, show k ≠ a by omega, ih hm (by omega)]

/-- A listed byte shows itself: no canonical memory that reads the same at its address begins above it. -/
theorem Memory.head_le_of_read_eq {m m' : Memory} {n k k' : Nat} {v v' : Byte} (hv : v ≠ unlistedByte)
    (hw : Memory.wfFrom n ((k', v') :: m') = true) (h : Memory.read ((k, v) :: m) k = Memory.read ((k', v') :: m') k) :
    k' ≤ k := by
  obtain ⟨-, hk', hv', hm'⟩ := (Memory.wfFrom_cons n k' v' m').mp hw
  by_contra hlt
  have hw' : Memory.wfFrom k' ((k', v') :: m') = true := (Memory.wfFrom_cons ..).mpr ⟨le_rfl, hk', hv', hm'⟩
  rw [Memory.read_of_lt_wfFrom hw' (by omega)] at h
  exact hv (by simpa [Memory.read] using h)

/-- Where two canonical memories with the same first entry read the same, so do their tails: both list nothing more at that entry's
address. -/
theorem Memory.read_tail_eq {m m' : Memory} {k a : Nat} {v : Byte} (hm : Memory.wfFrom (k + 1) m = true)
    (hm' : Memory.wfFrom (k + 1) m' = true) (h : Memory.read ((k, v) :: m) a = Memory.read ((k, v) :: m') a) :
    m.read a = m'.read a := by
  by_cases ha : k = a
  · rw [Memory.read_of_lt_wfFrom hm (by omega), Memory.read_of_lt_wfFrom hm' (by omega)]
  · simpa [Memory.read, ha] using h

/-- Two canonical memories that read the same are the same list, whatever addresses they start from. -/
theorem Memory.wfFrom_ext {m m' : Memory} {n n' : Nat} (hw : Memory.wfFrom n m = true) (hw' : Memory.wfFrom n' m' = true)
    (h : ∀ k < 65536, m.read k = m'.read k) : m = m' := by
  induction m generalizing n n' m' with
  | nil =>
    cases m' with
    | nil => rfl
    | cons p' m' =>
      obtain ⟨k', v'⟩ := p'
      obtain ⟨-, hk', hv', -⟩ := (Memory.wfFrom_cons n' k' v' m').mp hw'
      exact absurd (h k' hk').symm (by simpa [Memory.read] using hv')
  | cons p m ih =>
    obtain ⟨k, v⟩ := p
    obtain ⟨-, hk, hv, hm⟩ := (Memory.wfFrom_cons n k v m).mp hw
    cases m' with
    | nil => exact absurd (h k hk) (by simpa [Memory.read] using hv)
    | cons p' m' =>
      obtain ⟨k', v'⟩ := p'
      obtain ⟨-, hk', hv', hm'⟩ := (Memory.wfFrom_cons n' k' v' m').mp hw'
      obtain rfl : k = k' :=
        le_antisymm (Memory.head_le_of_read_eq hv' hw (h k' hk').symm) (Memory.head_le_of_read_eq hv hw' (h k hk))
      obtain rfl : v = v' := by simpa [Memory.read] using h k hk
      rw [ih hm hm' fun a ha => Memory.read_tail_eq hm hm' (h a ha)]

/-- Settles O12. -/
theorem canonicalMemoryUnique : Obligations.CanonicalMemoryUnique :=
  fun _ _ hw hw' h => Memory.wfFrom_ext hw hw' h

/-- On a FLAT bus a write is read back at its address and nowhere else (R71). -/
theorem State.busValue_busWrite {s : State} (hb : s.params.bus = .flat) (addr x : Word) (v : Byte) :
    (s.busWrite addr v).busValue x = if x = addr then v else s.busValue x := by
  rw [State.busValue_flat _ x (by simpa using hb), State.busValue_flat s x hb, State.busWrite_mem, Memory.read_write]
  simp only [BitVec.toNat_inj]

/-- Settles O13. -/
theorem flatBusReadsLastWrite : Obligations.FlatBusReadsLastWrite := by
  intro s addr x v hb
  refine ⟨State.busValue_busWrite hb addr x v, ?_⟩
  rw [State.busRead, State.busValue_flat s x hb, State.logAccess]

/-- From storage `m` and record `log` to `m'` and `log'`: at most `n` accesses were recorded, and their writes are what was stored. -/
def Recorded (n : Nat) (log : List BusAccess) (m : Memory) (log' : List BusAccess) (m' : Memory) : Prop :=
  ∃ acc, log' = acc ++ log ∧ acc.length ≤ n ∧ m' = applyWrites acc m

/-- The accesses are newest first: those in front are applied last. -/
theorem applyWrites_append (acc acc' : List BusAccess) (m : Memory) :
    applyWrites (acc ++ acc') m = applyWrites acc (applyWrites acc' m) := by
  induction acc with
  | nil => rfl
  | cons x acc ih => cases x <;> simp [applyWrites, ih]

/-- Reads store nothing. -/
theorem applyWrites_of_reads {acc : List BusAccess} (h : ∀ x ∈ acc, ∃ a v, x = BusAccess.read a v) (m : Memory) :
    applyWrites acc m = m := by
  induction acc with
  | nil => rfl
  | cons x acc ih =>
    obtain ⟨a, v, rfl⟩ := h x (by simp)
    exact ih fun y hy => h y (by simp [hy])

section
variable {n : Nat} {log log' : List BusAccess} {m m' : Memory}

@[simp] theorem Recorded.refl : Recorded n log m log m := ⟨[], rfl, Nat.zero_le n, rfl⟩

theorem Recorded.trans {k : Nat} {log'' : List BusAccess} {m'' : Memory} (h : Recorded n log m log' m')
    (h' : Recorded k log' m' log'' m'') : Recorded (n + k) log m log'' m'' := by
  obtain ⟨acc, rfl, hl, rfl⟩ := h
  obtain ⟨acc', rfl, hl', rfl⟩ := h'
  exact ⟨acc' ++ acc, by simp, by rw [List.length_append]; omega, by rw [applyWrites_append]⟩

theorem Recorded.mono {k : Nat} (hk : n ≤ k) (h : Recorded n log m log' m') : Recorded k log m log' m' := by
  obtain ⟨acc, hlog, hl, hm⟩ := h
  exact ⟨acc, hlog, hl.trans hk, hm⟩

@[simp] theorem Recorded.read (h : Recorded n log m log' m') (x : Word) (v : Byte) :
    Recorded (n + 1) log m (.read x v :: log') m' :=
  h.trans ⟨[.read x v], rfl, le_rfl, rfl⟩

@[simp] theorem Recorded.write (h : Recorded n log m log' m') (x : Word) (v : Byte) :
    Recorded (n + 1) log m (.write x v :: log') (m'.write x.toNat v) :=
  h.trans ⟨[.write x v], rfl, le_rfl, rfl⟩

end

/-- A push is two writes. -/
theorem State.recorded_push16 (s : State) (w : Word) : Recorded 2 s.busLog s.mem (s.push16 w).busLog (s.push16 w).mem :=
  (Recorded.refl.write _ _).write _ _

/-- A pop is two reads. -/
theorem State.recorded_pop16 (s : State) : Recorded 2 s.busLog s.mem s.pop16.2.busLog s.mem := by
  simp [State.pop16_eq]

/-- R72, R73: every instruction makes at most two data accesses. -/
theorem Effect.recorded {i : Instr} {s t : State} (h : Effect i s t) : Recorded 2 s.busLog s.mem t.busLog t.mem := by
  cases h with
  | alu _ x | inc8 x | dec8 x | rot _ x | bit _ x | res _ x | set _ x => cases x <;> simp
  | pop | ret | retCC | reti => simpa using s.recorded_pop16
  | push | callCC | call_a16 | rst => exact s.recorded_push16 _
  | ld_ma16_SP nn => exact (Recorded.refl.write nn _).write (nn + 1) _
  | _ => simp

theorem fetchInstr_recorded (s : State) :
    Recorded 3 s.busLog s.mem (fetchInstr s).state.busLog (fetchInstr s).state.mem := by
  obtain ⟨acc, hl, hr, hs⟩ := fetchInstr_reads s
  rw [hs]
  exact ⟨acc, rfl, hl, (applyWrites_of_reads hr s.mem).symm⟩

theorem serviceInterrupt_recorded {s t : State} {v : Word} (hi : s.ime = .enabled) (h : serviceInterrupt s v = .next t) :
    Recorded 2 s.busLog s.mem t.busLog t.mem := by
  rw [serviceInterrupt_eq v hi] at h
  cases h
  exact (Recorded.refl.write _ _).write _ _

/-- R79: an interrupt entry pushes, a sleeping step makes no access, and an executed instruction is at most three fetches and then
its data accesses. -/
theorem step_recorded {s t : State} (h : step s = .next t) : Recorded 5 s.busLog s.mem t.busLog t.mem := by
  rcases step_cases h with ⟨⟨hi, -⟩, u, hu, rfl⟩ | ⟨-, -, rfl⟩ | ⟨-, -, -, rfl⟩ | ⟨-, -, -, u, hu, rfl⟩
  · simpa using (serviceInterrupt_recorded (by simpa using hi) hu).mono (k := 5) (by decide)
  · simp
  · simp
  · simpa using (fetchInstr_recorded s.wakeIfAsked).trans (effect_of_exec hu).recorded

/-- Settles O31. -/
theorem memoryChangesByLoggedWrites : Obligations.MemoryChangesByLoggedWrites :=
  ⟨fun _ _ _ h => (effect_of_exec h).recorded, fun _ _ h => step_recorded h⟩

end Sys2Proof.Machine

/-! ## The encoding of each family

The Encoding lines of the rules, by the fields of R103 to R107, as equations of `encode`. -/

namespace Sys2Proof

open Sys2Proof.Machine Sys2Proof.Claims

@[simp] theorem encode_ldRR (dst r : Reg8) :
    encode (Instr.ldRR dst r) = [BitVec.ofNat 8 (0b01000000 + 8 * dst.code + r.code)] := by
  cases dst <;> cases r <;> rfl

@[simp] theorem encode_ldRI (dst : Reg8) (n : Byte) :
    encode (Instr.ldRI dst n) = [BitVec.ofNat 8 (0b00000110 + 8 * dst.code), n] := by
  cases dst <;> rfl

@[simp] theorem encode_ldRM (dst : Reg8) : encode (Instr.ldRM dst) = [BitVec.ofNat 8 (0b01000110 + 8 * dst.code)] := by
  cases dst <;> rfl

@[simp] theorem encode_ldMR (r : Reg8) : encode (Instr.ldMR r) = [BitVec.ofNat 8 (0b01110000 + r.code)] := by
  cases r <;> rfl

@[simp] theorem encode_ldAInd (x : IndA) : encode (Instr.ldAInd x) = loadBytes x := by
  cases x <;> rfl

@[simp] theorem encode_stAInd (x : IndA) : encode (Instr.stAInd x) = storeBytes x := by
  cases x <;> rfl

@[simp] theorem encode_ldAPost (x : PostHL) : encode (Instr.ldAPost x) = [match x with | .inc => 0x2A | .dec => 0x3A] := by
  cases x <;> rfl

@[simp] theorem encode_stAPost (x : PostHL) : encode (Instr.stAPost x) = [match x with | .inc => 0x22 | .dec => 0x32] := by
  cases x <;> rfl

@[simp] theorem encode_ldRRI (p : Reg16) (nn : Word) :
    encode (Instr.ldRRI p nn) = [BitVec.ofNat 8 (0b00000001 + 16 * p.code), lo nn, hi nn] := by
  cases p <;> rfl

@[simp] theorem encode_push (p : Reg16S) : encode (Instr.push p) = [BitVec.ofNat 8 (0b11000101 + 16 * p.code)] := by
  cases p <;> rfl

@[simp] theorem encode_pop (p : Reg16S) : encode (Instr.pop p) = [BitVec.ofNat 8 (0b11000001 + 16 * p.code)] := by
  cases p <;> rfl

@[simp] theorem encode_alu (op : AluOp) (x : AluSrc) : encode (Instr.alu op x) = aluBytes op x := by
  cases op <;> rcases x with ⟨⟨⟩⟩ | _ | _ <;> rfl

@[simp] theorem encode_inc8 (x : Loc8) : encode (Instr.inc8 x) = [BitVec.ofNat 8 (0b00000100 + 8 * x.code)] := by
  rcases x with ⟨⟨⟩⟩ | _ <;> rfl

@[simp] theorem encode_dec8 (x : Loc8) : encode (Instr.dec8 x) = [BitVec.ofNat 8 (0b00000101 + 8 * x.code)] := by
  rcases x with ⟨⟨⟩⟩ | _ <;> rfl

@[simp] theorem encode_inc16 (p : Reg16) : encode (Instr.inc16 p) = [BitVec.ofNat 8 (0b00000011 + 16 * p.code)] := by
  cases p <;> rfl

@[simp] theorem encode_dec16 (p : Reg16) : encode (Instr.dec16 p) = [BitVec.ofNat 8 (0b00001011 + 16 * p.code)] := by
  cases p <;> rfl

@[simp] theorem encode_addHL (p : Reg16) : encode (Instr.addHL p) = [BitVec.ofNat 8 (0b00001001 + 16 * p.code)] := by
  cases p <;> rfl

@[simp] theorem encode_rotA (x : AccRot) :
    encode (Instr.rotA x) = [match x with | .rlca => 0x07 | .rrca => 0x0F | .rla => 0x17 | .rra => 0x1F] := by
  cases x <;> rfl

@[simp] theorem encode_rot (op : RotOp) (x : Loc8) :
    encode (Instr.rot op x) = [0xCB, BitVec.ofNat 8 (8 * op.code + x.code)] := by
  cases op <;> rcases x with ⟨⟨⟩⟩ | _ <;> rfl

@[simp] theorem encode_bit (b : Sel3) (x : Loc8) :
    encode (Instr.bit b x) = [0xCB, BitVec.ofNat 8 (0b01000000 + 8 * b.toNat + x.code)] := by
  cases b <;> rcases x with ⟨⟨⟩⟩ | _ <;> rfl

@[simp] theorem encode_res (b : Sel3) (x : Loc8) :
    encode (Instr.res b x) = [0xCB, BitVec.ofNat 8 (0b10000000 + 8 * b.toNat + x.code)] := by
  cases b <;> rcases x with ⟨⟨⟩⟩ | _ <;> rfl

@[simp] theorem encode_set (b : Sel3) (x : Loc8) :
    encode (Instr.set b x) = [0xCB, BitVec.ofNat 8 (0b11000000 + 8 * b.toNat + x.code)] := by
  cases b <;> rcases x with ⟨⟨⟩⟩ | _ <;> rfl

@[simp] theorem encode_jpCC (cc : Cond) (nn : Word) :
    encode (Instr.jpCC cc nn) = [BitVec.ofNat 8 (0b11000010 + 8 * cc.code), lo nn, hi nn] := by
  cases cc <;> rfl

@[simp] theorem encode_jrCC (cc : Cond) (e : Byte) :
    encode (Instr.jrCC cc e) = [BitVec.ofNat 8 (0b00100000 + 8 * cc.code), e] := by
  cases cc <;> rfl

@[simp] theorem encode_callCC (cc : Cond) (nn : Word) :
    encode (Instr.callCC cc nn) = [BitVec.ofNat 8 (0b11000100 + 8 * cc.code), lo nn, hi nn] := by
  cases cc <;> rfl

@[simp] theorem encode_retCC (cc : Cond) : encode (Instr.retCC cc) = [BitVec.ofNat 8 (0b11000000 + 8 * cc.code)] := by
  cases cc <;> rfl

@[simp] theorem encode_rst (y : Sel3) : encode (Instr.rst y) = [BitVec.ofNat 8 (0b11000111 + 8 * y.toNat)] := by
  cases y <;> rfl

end Sys2Proof

/-! ## Decoding and encoding are inverse to each other

`decode_cons_eq_ok` says what `decode` does with a first byte, `encode_instr` that an entry of the opcode map and the encoder agree,
and `decode_encode` that every well-formed instruction is found where its bytes say. -/

namespace Sys2Proof

open Sys2Proof.Machine Sys2Proof.Claims

/-- What the decoder accepts: the operand bytes that the entry of the first byte takes, and a rest. -/
theorem decode_cons_eq_ok {b0 : Byte} {bs rest : List Byte} {i : Instr} :
    decode (b0 :: bs) = .ok (i, rest) ↔
      ∃ ops, bs = ops ++ rest ∧ ops.length = (unprefixed b0).operandBytes ∧
        i = (unprefixed b0).instr b0 (pick 0 ops 0) (pick 0 ops 1) := by
  constructor
  · intro h
    cases hs : splitBytes (unprefixed b0).operandBytes bs with
    | none => simp [decode, hs] at h
    | some p =>
      obtain ⟨ops, r⟩ := p
      obtain ⟨rfl, hl⟩ := splitBytes_some hs
      simp only [decode, hs, Except.ok.injEq, Prod.mk.injEq] at h
      obtain ⟨rfl, rfl⟩ := h
      exact ⟨ops, rfl, hl, rfl⟩
  · rintro ⟨ops, rfl, hl, rfl⟩
    exact decode_exact rest hl

/-- The decoder refuses a first byte with too few bytes after it, and names it. -/
theorem decode_truncated {b0 : Byte} {bs : List Byte} (h : bs.length < (unprefixed b0).operandBytes) :
    decode (b0 :: bs) = .error (.truncated b0) := by
  simp only [decode, splitBytes_none.mpr h]

/-- A 16-bit immediate is put together from its low and its high byte (R108). -/
theorem decode_u3 {b0 : Byte} {f : Word → Instr} (h : unprefixed b0 = .u3 f) (nn : Word) (rest : List Byte) :
    decode (b0 :: lo nn :: hi nn :: rest) = .ok (f nn, rest) :=
  decode_cons_eq_ok.mpr ⟨[lo nn, hi nn], rfl, by rw [h]; rfl, by rw [h]; exact congrArg f (cat_hi_lo nn).symm⟩

/-- After 0xCB, the next byte selects the instruction (R110). -/
theorem decode_cb (b1 : Byte) (rest : List Byte) : decode (0xCB :: b1 :: rest) = .ok (prefixedAt b1, rest) := rfl

/-- The 11 invalid opcodes are the entries without an instruction (R111). -/
theorem unprefixed_of_invalid {b0 : Byte} (h : b0 ∈ INVALID11) : unprefixed b0 = .bad := by
  simp only [INVALID11, List.mem_cons, List.not_mem_nil, or_false] at h
  rcases h with rfl | rfl | rfl | rfl | rfl | rfl | rfl | rfl | rfl | rfl | rfl <;> rfl

theorem decode_invalid {b0 : Byte} (h : b0 ∈ INVALID11) (bs : List Byte) : decode (b0 :: bs) = .ok (.invalid b0, bs) :=
  decode_cons_eq_ok.mpr ⟨[], rfl, by rw [unprefixed_of_invalid h]; rfl, by rw [unprefixed_of_invalid h]; rfl⟩

theorem decode_alu (op : AluOp) (x : AluSrc) (rest : List Byte) :
    decode (aluBytes op x ++ rest) = .ok (Instr.alu op x, rest) := by
  cases op <;> rcases x with ⟨⟨⟩⟩ | _ | _ <;> rfl

theorem decode_rot (op : RotOp) (z : Loc8) (rest : List Byte) :
    decode (0xCB :: BitVec.ofNat 8 (8 * op.code + z.code) :: rest) = .ok (Instr.rot op z, rest) := by
  cases op <;> rcases z with ⟨⟨⟩⟩ | _ <;> exact decode_cb _ rest

theorem decode_bit (b : Sel3) (z : Loc8) (rest : List Byte) :
    decode (0xCB :: BitVec.ofNat 8 (0b01000000 + 8 * b.toNat + z.code) :: rest) = .ok (Instr.bit b z, rest) := by
  cases b <;> rcases z with ⟨⟨⟩⟩ | _ <;> exact decode_cb _ rest

theorem decode_res (b : Sel3) (z : Loc8) (rest : List Byte) :
    decode (0xCB :: BitVec.ofNat 8 (0b10000000 + 8 * b.toNat + z.code) :: rest) = .ok (Instr.res b z, rest) := by
  cases b <;> rcases z with ⟨⟨⟩⟩ | _ <;> exact decode_cb _ rest

theorem decode_set (b : Sel3) (z : Loc8) (rest : List Byte) :
    decode (0xCB :: BitVec.ofNat 8 (0b11000000 + 8 * b.toNat + z.code) :: rest) = .ok (Instr.set b z, rest) := by
  cases b <;> rcases z with ⟨⟨⟩⟩ | _ <;> exact decode_cb _ rest

/-- The decoder gives back every well-formed instruction: by family, with the operand bytes symbolic. -/
theorem decode_encode {i : Instr} (h : i.wellFormed = true) (rest : List Byte) : decode (encode i ++ rest) = .ok (i, rest) := by
  induction i using instr_cases with
  | h_ldRR dst r => cases dst <;> cases r <;> rfl
  | h_ldRI dst n => cases dst <;> rfl
  | h_ldRM dst => cases dst <;> rfl
  | h_ldMR r => cases r <;> rfl
  | h_ldAInd x =>
    cases x with
    | ma16 nn => exact decode_u3 rfl nn rest
    | _ => rfl
  | h_stAInd x =>
    cases x with
    | ma16 nn => exact decode_u3 rfl nn rest
    | _ => rfl
  | h_ldAPost x => cases x <;> rfl
  | h_stAPost x => cases x <;> rfl
  | h_ldRRI p nn => cases p <;> exact decode_u3 rfl nn rest
  | h_push p => cases p <;> rfl
  | h_pop p => cases p <;> rfl
  | h_alu op x => rw [encode_alu]; exact decode_alu op x rest
  | h_inc8 x => rcases x with ⟨⟨⟩⟩ | _ <;> rfl
  | h_dec8 x => rcases x with ⟨⟨⟩⟩ | _ <;> rfl
  | h_inc16 p => cases p <;> rfl
  | h_dec16 p => cases p <;> rfl
  | h_addHL p => cases p <;> rfl
  | h_rotA x => cases x <;> rfl
  | h_rot op x => rw [encode_rot]; exact decode_rot op x rest
  | h_bit b x => rw [encode_bit]; exact decode_bit b x rest
  | h_res b x => rw [encode_res]; exact decode_res b x rest
  | h_set b x => rw [encode_set]; exact decode_set b x rest
  | h_jpCC cc nn => cases cc <;> exact decode_u3 rfl nn rest
  | h_jrCC cc e => cases cc <;> rfl
  | h_callCC cc nn => cases cc <;> exact decode_u3 rfl nn rest
  | h_retCC cc => cases cc <;> rfl
  | h_rst y => cases y <;> rfl
  | h_ld_ma16_SP nn | h_jp_a16 nn | h_call_a16 nn => exact decode_u3 rfl nn rest
  | h_invalid op => exact decode_invalid (List.contains_iff_mem.mp h) rest
  | _ => rfl

/-- Settles O1. -/
theorem decodeOfEncode : Obligations.DecodeOfEncode :=
  fun _ rest h => decode_encode h rest

/-- The operand bytes of the instruction that an entry makes of `b1` and `b2`, as the encoder writes them. -/
def Entry.operands (e : Entry) (b1 b2 : Byte) : List Byte :=
  match e with
  | .u1 _ => []
  | .u2 _ => [b1]
  | .u3 _ => [lo (cat b2 b1), hi (cat b2 b1)]
  | .cb => [b1]
  | .bad => []

theorem Entry.operands_pick {e : Entry} {ops : List Byte} (h : ops.length = e.operandBytes) :
    e.operands (pick 0 ops 0) (pick 0 ops 1) = ops := by
  cases e with
  | u1 | bad => exact (List.length_eq_zero_iff.mp h).symm
  | u2 | cb => obtain ⟨b1, rfl⟩ := List.length_eq_one_iff.mp h; rfl
  | u3 f => obtain ⟨b1, b2, rfl⟩ := List.length_eq_two.mp h; simp [Entry.operands, pick]

/-- The prefixed map and the encoder agree (R110, R117). -/
theorem encode_prefixedAt :
    ∀ b1 : Byte, (prefixedAt b1).wellFormed = true ∧ encode (prefixedAt b1) = [0xCB, b1] := by
  decide

/-- The unprefixed map and the encoder agree (R117): one case for each first byte but 0xCB, the operand bytes symbolic. -/
theorem encode_unprefixed {n : Nat} (hn : n < 256) (hcb : n ≠ 0xCB) (b1 b2 : Byte) :
    ((unprefixed (.ofNat 8 n)).instr (.ofNat 8 n) b1 b2).wellFormed = true ∧
      encode ((unprefixed (.ofNat 8 n)).instr (.ofNat 8 n) b1 b2) =
        .ofNat 8 n :: (unprefixed (.ofNat 8 n)).operands b1 b2 := by
  rcases Nat.lt_or_gt_of_ne hcb with hlt | hgt
  · interval_cases n <;> exact ⟨rfl, rfl⟩
  · interval_cases n <;> exact ⟨rfl, rfl⟩

/-- The entry of a first byte and the operand bytes it takes make a well-formed instruction whose encoding is these bytes. -/
theorem encode_instr (b0 : Byte) {ops : List Byte} (h : ops.length = (unprefixed b0).operandBytes) :
    ((unprefixed b0).instr b0 (pick 0 ops 0) (pick 0 ops 1)).wellFormed = true ∧
      encode ((unprefixed b0).instr b0 (pick 0 ops 0) (pick 0 ops 1)) = b0 :: ops := by
  by_cases hcb : b0 = 0xCB
  · subst hcb
    obtain ⟨b1, rfl⟩ := List.length_eq_one_iff.mp h
    exact encode_prefixedAt b1
  · have hn : b0.toNat ≠ 0xCB := fun hn => hcb (BitVec.eq_of_toNat_eq hn)
    simpa only [BitVec.ofNat_toNat, BitVec.setWidth_eq, Entry.operands_pick h] using
      encode_unprefixed b0.isLt hn (pick 0 ops 0) (pick 0 ops 1)

theorem encode_of_decode {bs rest : List Byte} {i : Instr} (h : decode bs = .ok (i, rest)) :
    i.wellFormed = true ∧ bs = encode i ++ rest := by
  cases bs with
  | nil => simp [decode] at h
  | cons b0 bs =>
    obtain ⟨ops, rfl, hl, rfl⟩ := decode_cons_eq_ok.mp h
    obtain ⟨hw, he⟩ := encode_instr b0 hl
    exact ⟨hw, by rw [he]; rfl⟩

/-- Settles O2. -/
theorem encodeOfDecode : Obligations.EncodeOfDecode :=
  fun _ _ _ h => encode_of_decode h

/-- R101: the format of the entry is the length that the lists U2 and U3 give. -/
theorem lengthOf_eq : ∀ b0 : Byte, b0 ∉ INVALID11 → lengthOf b0 = (unprefixed b0).operandBytes + 1 := by
  decide

/-- Settles O3: with enough bytes the entry takes the first ones, with fewer it is truncated. -/
theorem firstByteFixesLength : Obligations.FirstByteFixesLength := by
  intro b0 bs hv
  rw [lengthOf_eq b0 hv, List.length_cons, Nat.add_sub_cancel]
  split
  · rename_i hle
    have hl : (bs.take (unprefixed b0).operandBytes).length = (unprefixed b0).operandBytes :=
      List.length_take_of_le (Nat.le_of_succ_le_succ hle)
    refine ⟨_, decode_cons_eq_ok.mpr ⟨_, (List.take_append_drop _ bs).symm, hl, rfl⟩, ?_⟩
    rw [(encode_instr b0 hl).2, List.length_cons, hl]
  · exact decode_truncated (by omega)

/-- Settles O4. -/
theorem operationSelectors : Obligations.OperationSelectors :=
  ⟨decode_alu, decode_rot, fun b z rest => ⟨decode_bit b z rest, decode_res b z rest, decode_set b z rest⟩⟩

/-- An invalid instruction is decoded from an invalid first byte only, because its encoding is that byte. -/
theorem mem_INVALID11_of_decode {b0 : Byte} {bs rest : List Byte} {i : Instr} (h : decode (b0 :: bs) = .ok (i, rest))
    (hi : Invalid i) : b0 ∈ INVALID11 := by
  obtain ⟨op, rfl⟩ := hi
  obtain ⟨hw, hb⟩ := encode_of_decode h
  obtain ⟨rfl, -⟩ := List.cons.inj hb
  exact List.contains_iff_mem.mp hw

/-- Settles O5. -/
theorem elevenInvalidOpcodes : Obligations.ElevenInvalidOpcodes := by
  refine ⟨rfl, by decide, fun b0 bs rest i h => ⟨mem_INVALID11_of_decode h, fun hb => ?_⟩,
    fun b0 hb bs s => ⟨decode_invalid hb bs, s, rfl⟩⟩
  rw [decode_invalid hb] at h
  cases h
  exact ⟨b0, rfl⟩

/-- Settles O7. -/
theorem encodingsAsWritten : Obligations.EncodingsAsWritten :=
  ⟨rfl, rfl, rfl, rfl, rfl, rfl, rfl, rfl, rfl, rfl, rfl, rfl, rfl, rfl⟩

end Sys2Proof

/-! ## Fetching, and the step that executes what was fetched -/

namespace Sys2Proof.Machine

open Sys2Proof.Claims

/-- An address of R112 or R113, computed in words and on unbounded integers. -/
theorem u16_add_sub (w : Word) (n k : Nat) : u16 (w.toNat + n - k) = w + BitVec.ofNat 16 n - BitVec.ofNat 16 k := by
  rw [u16, Int.sub_eq_add_neg, BitVec.ofInt_add, BitVec.ofInt_add, BitVec.ofInt_neg, BitVec.sub_eq_add_neg]
  simp

theorem State.fetchAddr_eq (s : State) (i : Nat) :
    s.fetchAddr i = u16 (s.pc.toNat + i - (if s.haltBug = true ∧ i ≥ 1 then 1 else 0)) := by
  rw [State.fetchAddr, ← u16_add_sub]
  push_cast
  rfl

theorem State.nextPC_eq (s : State) (len : Nat) : s.nextPC len = u16 (s.pc.toNat + len - (if s.haltBug then 1 else 0)) := by
  rw [State.nextPC, bitNat, ← u16_add_sub]
  push_cast
  rfl

/-- The first byte fetched is the one at PC. -/
theorem State.fetchFrom_zero_bytes (s : State) (n : Nat) :
    (s.fetchFrom 0 (n + 1)).1 = s.busValue s.pc :: ((s.fetch 0).2.fetchFrom 1 n).1 := by
  have h : s.fetchAddr 0 = s.pc := by simp [State.fetchAddr]
  simp [State.fetchFrom, State.fetch, State.busRead, h]

/-- The instruction fetched is what the bytes fetched decode to, with none left over. -/
theorem decode_fetchInstr (s : State) :
    decode (s.fetchFrom 0 ((unprefixed (s.busValue s.pc)).operandBytes + 1)).1 = .ok ((fetchInstr s).instr, []) := by
  have h : (s.fetch 0).1 = s.busValue s.pc := fetchInstr_b0 s
  rw [State.fetchFrom_zero_bytes]
  refine decode_cons_eq_ok.mpr ⟨_, (List.append_nil _).symm, State.fetchFrom_length _ _ _, ?_⟩
  simp only [fetchInstr, h]

/-- Bytes fetched that decode to one instruction are that instruction's encoding. -/
theorem encode_eq_of_decode_fetchFrom {s : State} {n : Nat} {i : Instr} (h : decode (s.fetchFrom 0 n).1 = .ok (i, [])) :
    encode i = (s.fetchFrom 0 n).1 := by
  simpa using (encode_of_decode h).2.symm

/-- The fetch reads as many bytes as the instruction's encoding has (R112). -/
theorem encode_fetchInstr_length (s : State) :
    (encode (fetchInstr s).instr).length = (unprefixed (s.busValue s.pc)).operandBytes + 1 := by
  rw [encode_eq_of_decode_fetchFrom (decode_fetchInstr s), State.fetchFrom_length]

theorem fetchInstr_state_eq (s : State) :
    (fetchInstr s).state = (s.fetchFrom 0 (encode (fetchInstr s).instr).length).2 := by
  rw [encode_fetchInstr_length, fetchInstr_state]

/-- When the bytes from PC on decode to exactly an instruction, that one is fetched, by reading exactly these bytes. -/
theorem fetchInstr_of_decode {s : State} {n : Nat} {i : Instr} (h : decode (s.fetchFrom 0 n).1 = .ok (i, [])) :
    (fetchInstr s).instr = i ∧ (fetchInstr s).state = (s.fetchFrom 0 n).2 ∧ s.busValue s.pc = (encode i).headD 0 := by
  cases n with
  | zero => simp [State.fetchFrom, decode] at h
  | succ n =>
    have hb := State.fetchFrom_zero_bytes s n
    rw [encode_eq_of_decode_fetchFrom h, hb]
    rw [hb] at h
    obtain ⟨ops, ho, hl, -⟩ := decode_cons_eq_ok.mp h
    obtain rfl : n = (unprefixed (s.busValue s.pc)).operandBytes := by
      rw [← hl, ← State.fetchFrom_length n (s.fetch 0).2 1, ho, List.append_nil]
    have hd := decode_fetchInstr s
    rw [hb, h] at hd
    cases hd
    exact ⟨rfl, fetchInstr_state s, rfl⟩

/-- Settles O15. -/
theorem fetchAtPC : Obligations.FetchAtPC := by
  refine ⟨fun s i n => ?_, fun _ _ => rfl, fetchInstr_state_eq, State.nextPC_eq⟩
  rw [← State.fetchAddr_eq]
  rfl

/-- Settles O14. -/
theorem stepRunsDecodedInstruction : Obligations.StepRunsDecodedInstruction := by
  intro s n i ⟨hstop, hhalt, hserv⟩ h
  obtain ⟨hi, hs, hb⟩ := fetchInstr_of_decode h
  rw [step_executes hstop hhalt hserv, hi, hs, ← hb, State.wakeIfAsked_busValue, State.wakeIfAsked_pc]

/-! ### Which steps report an invalid opcode -/

/-- Every instruction but the invalid opcodes completes (R403). -/
theorem exec_completes {i : Instr} (h : ¬ Invalid i) (s : State) : ∃ t, exec i s = .next t := by
  induction i using instr_cases with
  | h_ldRR dst r => exact ⟨_, exec_ldRR dst r s⟩
  | h_ldRI dst n => exact ⟨_, exec_ldRI dst n s⟩
  | h_ldRM dst => exact ⟨_, exec_ldRM dst s⟩
  | h_ldMR r => exact ⟨_, exec_ldMR r s⟩
  | h_ldAInd x => exact ⟨_, exec_ldAInd x s⟩
  | h_stAInd x => exact ⟨_, exec_stAInd x s⟩
  | h_ldAPost x => exact ⟨_, exec_ldAPost x s⟩
  | h_stAPost x => exact ⟨_, exec_stAPost x s⟩
  | h_ldRRI p nn => exact ⟨_, exec_ldRRI p nn s⟩
  | h_push p => exact ⟨_, exec_push p s⟩
  | h_pop p => exact ⟨_, exec_pop p s⟩
  | h_alu op x => exact ⟨_, exec_alu op x s⟩
  | h_inc8 x => exact ⟨_, exec_inc8 x s⟩
  | h_dec8 x => exact ⟨_, exec_dec8 x s⟩
  | h_inc16 p => exact ⟨_, exec_inc16 p s⟩
  | h_dec16 p => exact ⟨_, exec_dec16 p s⟩
  | h_addHL p => exact ⟨_, exec_addHL p s⟩
  | h_rotA x => exact ⟨_, exec_rotA x s⟩
  | h_rot op x => exact ⟨_, exec_rot op x s⟩
  | h_bit b x => exact ⟨_, exec_bit b x s⟩
  | h_res b x => exact ⟨_, exec_res b x s⟩
  | h_set b x => exact ⟨_, exec_set b x s⟩
  | h_jpCC cc nn => rw [exec_jpCC, jumpIf]; split <;> exact ⟨_, rfl⟩
  | h_jrCC cc e => rw [exec_jrCC, jumpRelIf]; split <;> exact ⟨_, rfl⟩
  | h_callCC cc nn => rw [exec_callCC, callIf]; split <;> exact ⟨_, rfl⟩
  | h_retCC cc => rw [exec_retCC, returnIf]; split <;> exact ⟨_, rfl⟩
  | h_rst y => exact ⟨_, exec_rst y s⟩
  | h_halt => exact ⟨_, exec_halt_eq s⟩
  | h_ei => exact ⟨_, exec_ei_eq s⟩
  | h_invalid op => exact absurd ⟨op, rfl⟩ h
  | _ => exact ⟨_, rfl⟩

/-- Only an invalid opcode faults, and it reports its own byte as unprefixed (R401). -/
theorem exec_eq_fault {i : Instr} {s : State} {r : Fault} (h : exec i s = .fault r) :
    ∃ op, i = .invalid op ∧ r = .invalidOpcode op false s := by
  by_cases hi : Invalid i
  · obtain ⟨op, rfl⟩ := hi
    cases h
    exact ⟨op, rfl, rfl⟩
  · obtain ⟨t, ht⟩ := exec_completes hi s
    rw [ht] at h
    cases h

/-- A turn reports a fault where what it did does, with the input used up in the state left. -/
theorem endTurn_eq_invalidOpcode {o : Out} {b : Byte} {p : Bool} {t : State} :
    endTurn o = .fault (.invalidOpcode b p t) ↔ ∃ u, o = .fault (.invalidOpcode b p u) ∧ t = u.dropInput := by
  rcases o with u | r | r
  · simp [endTurn]
  · cases r <;> simp [endTurn, eq_comm, and_assoc]
  · simp [endTurn]

theorem mapNext_eq_fault {g : State → State} {o : Out} {r : Fault} : mapNext g o = .fault r ↔ o = .fault r := by
  cases o <;> simp [mapNext]

/-- A core step faults only in the instruction it executes. -/
theorem coreStep_eq_fault {s : State} {r : Fault} (h : coreStep s = .fault r) :
    exec (fetchInstr s).instr (fetchInstr s).state = .fault r := by
  unfold coreStep at h
  split at h
  · cases h
  · split at h
    · cases h
    · exact mapNext_eq_fault.mp h

/-- A step that reports an invalid opcode is a core step that does. -/
theorem coreStep_of_step_invalidOpcode {s t : State} {b : Byte} {p : Bool} (h : step s = .fault (.invalidOpcode b p t)) :
    ∃ u, coreStep s.wakeIfAsked = .fault (.invalidOpcode b p u) ∧ t = u.dropInput := by
  simp only [step, boundary] at h
  split at h
  · rename_i hi
    rw [serviceInterrupt_eq _ hi.1] at h
    cases h
  · exact endTurn_eq_invalidOpcode.mp h

/-- Settles O6: 0xCB is no invalid opcode, and only those fault. -/
theorem prefixedSpaceComplete : Obligations.PrefixedSpaceComplete := by
  constructor
  · exact fun b1 rest => ⟨_, decode_cb b1 rest, fun hi => absurd (mem_INVALID11_of_decode (decode_cb b1 rest) hi) (by decide)⟩
  · intro s t b h
    obtain ⟨u, hu, -⟩ := coreStep_of_step_invalidOpcode h
    obtain ⟨op, -, hr⟩ := exec_eq_fault (coreStep_eq_fault hu)
    cases hr

/-! ### PC after an instruction -/

/-- R113: an instruction that transfers no control goes on after its own bytes. -/
theorem Effect.pc_eq {i : Instr} {s t : State} (h : Effect i s t) : Transfers i ∨ t.pc = s.nextPC (encode i).length := by
  cases h with
  | jp_a16 | jp_HL | jpCC | jpCC_not | jr_e8 | jrCC | jrCC_not | call_a16 | callCC | callCC_not | ret | retCC | retCC_not
  | reti | rst => exact .inl (by simp [Transfers])
  | nop | ld_ma16_SP | stop | daa | cpl | ld_mHL_d8 | scf | ccf | halt | add_SP_e8 | di | ld_HL_SPe8 | ld_SP_HL | ei =>
    exact .inr rfl
  | ldAInd x | stAInd x => cases x <;> exact .inr rfl
  | alu op x => cases x <;> exact .inr (by simp [aluBytes, aluLength, State.nextPC])
  | _ => exact .inr (by simp [State.nextPC])

theorem exec_pc {i : Instr} {s t : State} (hi : ¬ Transfers i) (h : exec i s = .next t) : t.pc = s.nextPC (encode i).length :=
  (effect_of_exec h).pc_eq.resolve_left hi

@[simp] theorem fetchInstr_nextPC (s : State) (n : Nat) : (fetchInstr s).state.nextPC n = s.nextPC n := by
  obtain ⟨acc, -, -, h⟩ := fetchInstr_reads s
  rw [h]
  rfl

/-- R114 across the whole step: neither Wake, the fetch, StepEnd nor the input used up moves PC. -/
theorem step_pc {s t : State} (ha : Awake s) (h : step s = .next t) (hi : ¬ Transfers (fetchInstr s.wakeIfAsked).instr) :
    t.pc = s.nextPC (encode (fetchInstr s.wakeIfAsked).instr).length := by
  obtain ⟨hstop, hhalt, hserv⟩ := ha
  rw [step_executes hstop hhalt hserv] at h
  obtain ⟨u, hu, rfl⟩ := endTurn_eq_next.mp h
  obtain ⟨w, hw, rfl⟩ := mapNext_eq_next.mp hu
  rw [State.dropInput_pc, State.stepEnd_pc, exec_pc hi hw, fetchInstr_nextPC]
  simp [State.nextPC]

/-- A prefixed instruction is 0xCB and one byte (R101). -/
theorem encode_length_of_prefixed {i : Instr} (hcb : (encode i).head? = some 0xCB) (hw : i.wellFormed = true) :
    (encode i).length = 2 := by
  obtain ⟨bs, hbs⟩ := List.head?_eq_some_iff.mp hcb
  have hd := decode_encode hw []
  rw [hbs, List.append_nil] at hd
  obtain ⟨ops, rfl, hl, -⟩ := decode_cons_eq_ok.mp hd
  rw [hbs, List.append_nil, List.length_cons, hl]
  rfl

/-- Settles O27. -/
theorem advanceExactlyOnce : Obligations.AdvanceExactlyOnce :=
  ⟨fun _ _ => step_pc, fun _ _ _ => exec_pc, fun _ => encode_length_of_prefixed⟩

end Sys2Proof.Machine

/-! ## The arithmetic primitives

`u8` and `u16` reduce an unbounded integer modulo 2^8 and 2^16, so they commute with sum and difference: what a primitive computes in
words is the reduced exact result. -/

namespace Sys2Proof.Machine

open Sys2Proof.Claims

theorem u8_add (m n : Int) : u8 (m + n) = u8 m + u8 n := BitVec.ofInt_add m n

theorem u8_sub (m n : Int) : u8 (m - n) = u8 m - u8 n := by
  rw [u8, Int.sub_eq_add_neg, BitVec.ofInt_add, BitVec.ofInt_neg, ← BitVec.sub_eq_add_neg]
  rfl

theorem u8_natCast (n : Nat) : u8 n = BitVec.ofNat 8 n := BitVec.ofInt_natCast 8 n

@[simp] theorem u8_toNat (b : Byte) : u8 b.toNat = b := by rw [u8_natCast, BitVec.ofNat_toNat, BitVec.setWidth_eq]

theorem u16_add (m n : Int) : u16 (m + n) = u16 m + u16 n := BitVec.ofInt_add m n

theorem u16_natCast (n : Nat) : u16 n = BitVec.ofNat 16 n := BitVec.ofInt_natCast 16 n

@[simp] theorem u16_toNat (w : Word) : u16 w.toNat = w := by rw [u16_natCast, BitVec.ofNat_toNat, BitVec.setWidth_eq]

/-- `sext_16` (R7) keeps the signed value. -/
theorem u16_toInt (e : Byte) : u16 e.toInt = sext16 e := (sext16_eq e).symm

/-- R143 and R140: the three-input sum without a carry-in is the plain sum. -/
theorem adc8_false (a b : Byte) : adc8 a b false = add8 a b := by simp [adc8, add8, bitNat]

/-- R144 and R141: the three-input difference without a borrow-in is the plain difference. -/
theorem sbc8_false (a b : Byte) : sbc8 a b false = sub8 a b := by simp [sbc8, sub8, bitNat]

/-- Settles O8: the results by `u8_add` and `u8_sub`; the carries are the model's own. -/
theorem byteArithmetic : Obligations.ByteArithmetic := by
  intro a b cin
  refine ⟨?add, ?sub, ?adc, ?sbc, adc8_false a b, sbc8_false a b⟩
  case add => rw [u8_add, u8_toNat, u8_toNat, add8]
  case sub => rw [u8_sub, u8_toNat, u8_toNat, sub8]
  case adc => rw [u8_add, u8_add, u8_toNat, u8_toNat, u8_natCast, adc8]
  case sbc => rw [u8_sub, u8_sub, u8_toNat, u8_toNat, u8_natCast, sbc8]

/-- Settles O9: the flags of `addSPe` are those of the low byte of SP, whose low four bits are those of SP. -/
theorem wordArithmetic : Obligations.WordArithmetic := by
  refine ⟨fun a b => ?add, fun sp e => ?addSP⟩
  case add => rw [u16_add, u16_toNat, u16_toNat, add16]
  case addSP =>
    have hlow : (lo sp).toNat % 16 = sp.toNat % 16 := by rw [lo_toNat]; omega
    rw [u16_add, u16_toNat, u16_toInt, addSPe, add8, hlow, lo_toNat]

end Sys2Proof.Machine


/-! ## The 8-bit loads

Each effect is the frame `passed` with the destination written: the register operations commute with `advance` and `spend`. -/

namespace Sys2Proof.Machine

open Sys2Proof.Claims

/-- A register load after the accesses `acc` is its frame with the register set. -/
theorem State.set8_advance_spend (s : State) (acc : List BusAccess) (r : Reg8) (v : Byte) (len cost : Nat) :
    ((({ s with busLog := acc ++ s.busLog }).set8 r v).advance len).spend cost = (passed s len cost acc).set8 r v := by
  cases r <;> rfl

/-- One write to memory is read back at its address, and every other address reads as before. -/
theorem storesByte_of_mem {s t : State} {addr : Word} {v : Byte} (h : t.mem = s.mem.write addr.toNat v) :
    StoresByte s t addr v := by
  intro k
  rw [h, Memory.read_write]

/-- An instruction that only writes one byte stores it, and its frame but for memory is that of its length, cost and access. -/
theorem storesByte_of_exec {i : Instr} {s : State} {addr : Word} {v : Byte} {len cost : Nat}
    (h : exec i s = .next (((s.busWrite addr v).advance len).spend cost)) :
    ∃ t, exec i s = .next t ∧ StoresByte s t addr v ∧ t = { passed s len cost [.write addr v] with mem := t.mem } :=
  ⟨_, h, storesByte_of_mem rfl, rfl⟩

/-- Settles O34. -/
theorem loadRegister : Obligations.LoadRegister := by
  intro s dst src n
  refine ⟨encode_ldRR dst src, ?copy, encode_ldRI dst n, ?imm⟩
  case copy => rw [exec_ldRR, ldRegReg, ← State.set8_advance_spend]; rfl
  case imm => rw [exec_ldRI, ldRegImm, ← State.set8_advance_spend]; rfl

/-- Settles O35: the load reads at the HL of the state before, whose half it may then replace (R77). -/
theorem loadAndStoreAtHL : Obligations.LoadAndStoreAtHL := by
  intro s r n
  refine ⟨encode_ldRM r, ?load, encode_ldMR r, storesByte_of_exec (exec_ldMR r s), rfl, storesByte_of_exec rfl⟩
  rw [exec_ldRM, ldRegMem, ← State.set8_advance_spend]
  rfl

/-- R76: the address in the high page, on unbounded integers. -/
theorem u16_highPage (n : Byte) : u16 (0xFF00 + n.toNat) = highPage n := u16_natCast (0xFF00 + n.toNat)

/-- The address that the indirect load and store of A use is the one of their rules. -/
theorem indAddress_eq (s : State) (x : IndA) : indAddress s x = x.addr s := by
  cases x with
  | mBC | mDE | ma16 => rfl
  | mC => exact u16_highPage s.c
  | ma8 n => exact u16_highPage n

theorem indSize_eq (x : IndA) : indSize x = (x.length, x.cost) := by
  cases x <;> rfl

/-- Settles O36. -/
theorem loadAIndirect : Obligations.LoadAIndirect := by
  intro s x
  refine ⟨encode_ldAInd x, ?_⟩
  rw [exec_ldAInd, indAddress_eq, indSize_eq]
  rfl

/-- Settles O37. -/
theorem storeAIndirect : Obligations.StoreAIndirect := by
  intro s x
  refine ⟨encode_stAInd x, ?_⟩
  rw [indAddress_eq, indSize_eq]
  exact storesByte_of_exec (exec_stAInd x s)

/-- HL moved by one in words is the step of the rules modulo 65536. -/
theorem add_delta_eq (w : Word) (x : PostHL) : w + x.delta = u16 (w.toNat + postStep x) := by
  rw [u16_add, u16_toNat]
  cases x <;> rfl

/-- HL after a post-modified access reads as the step of the rules, whatever else the access changed. -/
theorem State.hl_setHL_add_delta (s : State) (w : Word) (x : PostHL) (len cost : Nat) :
    (((s.setHL (w + x.delta)).advance len).spend cost).hl = u16 (w.toNat + postStep x) :=
  (cat_hi_lo _).trans (add_delta_eq w x)

/-- Settles O38: HL moves after the access, so the access is at the old HL (R77). -/
theorem postModifiedHL : Obligations.PostModifiedHL := by
  intro s x
  refine ⟨encode_ldAPost x, ?load, encode_stAPost x, ?store⟩
  case load => exact ⟨_, exec_ldAPost x s, State.hl_setHL_add_delta .., rfl⟩
  case store => exact ⟨_, exec_stAPost x s, State.hl_setHL_add_delta .., storesByte_of_mem rfl, rfl⟩

end Sys2Proof.Machine


/-! ## The 16-bit loads and the stack

A push and a pop are each said once, as the state before with SP, memory and the record of accesses changed; an instruction adds
its length and cost. `pushPair_spec` and `popPair_spec` settle the statements named after the model's `pushPair` and `popPair`. -/

namespace Sys2Proof.Machine

open Sys2Proof.Claims

/-- A pair load that makes no access is its frame with the pair set. -/
theorem State.set16_advance_spend (s : State) (p : Reg16) (w : Word) (len cost : Nat) :
    ((s.set16 p w).advance len).spend cost = (passed s len cost []).set16 p w := by
  cases p <;> rfl

/-- Settles O39. -/
theorem loadPair : Obligations.LoadPair := by
  intro s p nn
  refine ⟨encode_ldRRI p nn, ?_, rfl, rfl⟩
  rw [exec_ldRRI, ldPairImm, State.set16_advance_spend]

/-- Two writes to memory are read back, the later one first, and every other address reads as before. -/
theorem storesTwo_of_mem {s t : State} {addr addr' : Word} {v v' : Byte}
    (h : t.mem = (s.mem.write addr.toNat v).write addr'.toNat v') : StoresTwo s t addr v addr' v' := by
  intro k
  rw [h, Memory.read_write, Memory.read_write]

/-- Settles O40: the second write does not reach SP, so its byte is that of SP before. -/
theorem storeStackPointer : Obligations.StoreStackPointer := by
  intro s nn
  rw [u16_add, u16_toNat]
  exact ⟨rfl, _, rfl, storesTwo_of_mem rfl, rfl⟩

/-- A state whose F was written by `setFlags` has those flags. -/
theorem flagsAre_of_f {t : State} {z n h c : Bool} (ht : t.f = packFlags z n h c &&& 0xF0) : FlagsAre t z n h c := by
  simp only [FlagsAre, zf, nf, hf, cf, ht]
  exact ⟨packFlags_z z n h c, packFlags_n z n h c, packFlags_h z n h c, packFlags_c z n h c, masked_low _⟩

/-- Settles O41: the sum and its flags are those of `addSPe` (O9). -/
theorem stackPlusDisplacement : Obligations.StackPlusDisplacement := by
  intro s e h c
  have hsum : addSPe s.sp e = ⟨u16 (s.sp.toNat + e.toInt), c, h⟩ := wordArithmetic.2 s.sp e
  have hflags : ∀ t : State, t.f = packFlags false false (addSPe s.sp e).halfcarry (addSPe s.sp e).carry &&& 0xF0 →
      FlagsAre t false false h c := by
    intro t ht
    rw [hsum] at ht
    exact flagsAre_of_f ht
  have hresult : (addSPe s.sp e).result = u16 (s.sp.toNat + e.toInt) := congrArg Result16.result hsum
  exact ⟨rfl, ⟨_, rfl, (cat_hi_lo _).trans hresult, hflags _ rfl, rfl⟩, rfl, _, rfl, hresult, hflags _ rfl, rfl⟩

/-- The address two below `w`, in words and modulo 65536. -/
theorem u16_toNat_sub_two (w : Word) : u16 (w.toNat - 2) = w - 2 := by
  rw [Int.sub_eq_add_neg, u16_add, u16_toNat, BitVec.sub_eq_add_neg]
  rfl

/-- A push changes SP, memory and the record of accesses (R201). -/
theorem State.push16_eq_pushLog (s : State) (w : Word) :
    s.push16 w = { s with sp := u16 (s.sp.toNat - 2), mem := (s.push16 w).mem, busLog := pushLog s w ++ s.busLog } := by
  rw [u16_toNat_sub_two, State.push16_eq]
  rfl

/-- An instruction that pushes one word and goes on at `target` leaves the word on the stack, and the frame of its cost and
accesses but for SP and memory. -/
theorem pushed_of_exec {i : Instr} {s : State} {w target : Word} {cost : Nat}
    (h : exec i s = .next (((s.push16 w).writePC target).spend cost)) :
    ∃ t, exec i s = .next t ∧ Pushed s t w ∧
      t = { went s target cost (pushLog s w) with sp := u16 (s.sp.toNat - 2), mem := t.mem } := by
  refine ⟨_, h, storesTwo_of_mem ?mem, ?frame⟩
  case mem => rw [State.push16_eq]; rfl
  case frame => rw [State.push16_eq_pushLog]; rfl

/-- Settles O42: PUSH is one push and the step to the next instruction. -/
theorem pushPair_spec : Obligations.PushPair :=
  fun s p => ⟨encode_push p, pushed_of_exec (exec_push p s)⟩

/-- A pop reads its word and changes SP and the record of accesses (R202). -/
theorem State.pop16_eq_popLog (s : State) :
    s.pop16 = (popWord s, { s with sp := s.sp + 2, busLog := popLog s ++ s.busLog }) :=
  s.pop16_eq

/-- A word popped into a pair puts its two bytes there; F takes the upper four bits only (R32). -/
theorem State.set16s_cat (s : State) (p : Reg16S) (h l : Byte) :
    s.set16s p (cat h l) = (match p with
      | .bc => { s with b := h, c := l }
      | .de => { s with d := h, e := l }
      | .hl => { s with h := h, l := l }
      | .af => { s with a := h, f := l &&& 0xF0 }) := by
  cases p <;> simp only [State.set16s, State.setBC, State.setDE, State.setHL, State.setAF, State.writeF, hi_cat, lo_cat]

/-- Settles O43: the two bytes that the pop reads are the halves of the word it returns. -/
theorem popPair_spec : Obligations.PopPair := by
  intro s p
  refine ⟨encode_pop p, ?_⟩
  rw [exec_pop, popPair, State.pop16_eq_popLog, popWord, State.set16s_cat, u16_add, u16_toNat]
  cases p <;> rfl

/-- On a FLAT bus a pop gives back the word that a push left above SP. -/
theorem popWord_of_pushed {s t : State} {w : Word} (hb : t.params.bus = .flat) (hsp : t.sp = s.sp - 2) (hm : Pushed s t w) :
    popWord t = w := by
  have hlow : popLow t = lo w := by
    rw [popLow, State.busValue_flat t _ hb, hm, hsp, if_pos rfl]
  have hhigh : popHigh t = hi w := by
    have haddr : t.sp + 1 = s.sp - 1 := by rw [hsp]; bv_omega
    have hne : (s.sp - 1).toNat ≠ (s.sp - 2).toNat := by bv_omega
    rw [popHigh, State.busValue_flat (t.logAccess _) _ hb, haddr, State.logAccess_mem, hm, if_neg hne, if_pos rfl]
  rw [popWord, hlow, hhigh, cat_hi_lo]

/-- On a FLAT bus a pop after an instruction that pushed `w` gives `w` back and restores SP. -/
theorem State.pop16_of_pushed {s t : State} {w target : Word} {cost : Nat} {acc : List BusAccess} (hb : s.params.bus = .flat)
    (hm : Pushed s t w) (ht : t = { went s target cost acc with sp := u16 (s.sp.toNat - 2), mem := t.mem }) :
    ∃ log, t.pop16 = (w,
      { s with pc := target, haltBug := false, mem := t.mem, cycles := s.cycles + cost, busLog := log }) := by
  have hword : popWord t = w := popWord_of_pushed (by rw [ht]; exact hb) (by rw [ht]; exact u16_toNat_sub_two s.sp) hm
  have hback : t.sp + 2 = s.sp := by rw [ht, u16_toNat_sub_two]; exact BitVec.sub_add_cancel ..
  refine ⟨popLog t ++ t.busLog, ?_⟩
  rw [State.pop16_eq_popLog, hword, hback]
  generalize t.mem = m at ht ⊢
  subst ht
  rfl

/-- Writing to a pair the value it has changes nothing, for AF because F[3:0] = 0 (R32). -/
theorem State.set16s_of_get16s {s : State} {p : Reg16S} {w : Word} (hw : s.get16s p = w) (hlow : s.f &&& 0x0F = 0) :
    s.set16s p w = s := by
  have hF : s.readF &&& 0xF0 = s.f := by rw [State.readF, masked_of_low hlow, masked_of_low hlow]
  subst hw
  cases p with
  | bc | de | hl => exact State.set16s_cat ..
  | af => exact (State.set16s_cat ..).trans (by rw [hF])

/-- Settles O44: the pop takes back the word that the push wrote, so POP writes the pair with its own value, and RET goes on at
the address that CALL pushed. -/
theorem stackRoundTrips : Obligations.StackRoundTrips := by
  intro s hb hlow
  refine ⟨fun p => ?pair, fun nn => ?call⟩
  case pair =>
    obtain ⟨t, hpush, hm, ht⟩ := pushed_of_exec (exec_push p s)
    obtain ⟨log, hpop⟩ := State.pop16_of_pushed hb hm ht
    have hnext : t.nextPC 1 = { s with pc := s.nextPC 1, haltBug := false }.nextPC 1 := by rw [ht]; rfl
    refine ⟨t, _, hpush, exec_pop p t, ?_⟩
    rw [hpop, State.set16s_of_get16s, hnext]
    · rfl
    · cases p <;> rfl
    · exact hlow
  case call =>
    obtain ⟨t, hcall, hm, ht⟩ := pushed_of_exec (i := .call_a16 nn) (s := s) rfl
    obtain ⟨log, hpop⟩ := State.pop16_of_pushed hb hm ht
    refine ⟨t, _, hcall, rfl, ?_⟩
    rw [hpop]
    rfl

end Sys2Proof.Machine


/-! ## The 8-bit arithmetic

An ALU instruction, INC, DEC and DAA are each said once: the frame of the statements with the operand written, and the flags of one
primitive. Addition with and without carry are then one three-input sum, and likewise for subtraction and comparison. -/

namespace Sys2Proof.Machine

open Sys2Proof.Claims

/-- A state left by `setFlags` and the step to the next instruction has those flags. -/
theorem flagsAre_setFlags_advance_spend (s : State) (z n h c : Bool) (len cost : Nat) :
    FlagsAre (((s.setFlags z n h c).advance len).spend cost) z n h c :=
  flagsAre_of_f rfl

/-! ### Operations on A -/

/-- R230: an ALU instruction reads its operand, and then changes only A and F, as `aluOut` says. -/
theorem alu_of_exec (s : State) (op : AluOp) (x : AluSrc) {o : AluOut} (ho : aluOut op s.a (srcValue s x) (cf s) = o) :
    ∃ t, exec (Instr.alu op x) s = .next t ∧ t = { aluPassed s x with a := t.a, f := t.f } ∧ t.a = o.a ∧
      FlagsAre t o.z o.n o.h o.c := by
  have hv : (s.readSrc x).1 = srcValue s x := by cases x <;> rfl
  have hc : s.flagC = cf s := s.flagC_eq
  refine ⟨_, exec_alu op x s, ?frame, ?a, ?flags⟩
  case frame => cases x <;> rfl
  case a => simp only [State.spend_a, State.advance_a, State.setFlags_a, State.set8, hv, hc, ho]
  case flags =>
    simp only [hv, hc, ho]
    exact flagsAre_setFlags_advance_spend ..

/-- ADD is ADC with no carry-in (R143). -/
theorem aluOut_add_adc (a v : Byte) (withCarry c : Bool) :
    aluOut (if withCarry then .adc else .add) a v c = AluOut.of (adc8 a v (withCarry && c)) false := by
  cases withCarry with
  | false => rw [Bool.false_and, adc8_false]; rfl
  | true => rfl

/-- SUB is SBC with no borrow-in (R144), and CP is SUB but for A. -/
theorem aluOut_sub_sbc_cp {op : AluOp} (hop : op = .sub ∨ op = .sbc ∨ op = .cp) (a v : Byte) (c : Bool) :
    aluOut op a v c =
      { AluOut.of (sbc8 a v (op = .sbc && c)) true with a := if op = .cp then a else (sbc8 a v (op = .sbc && c)).result } := by
  rcases hop with rfl | rfl | rfl
  · exact congrArg (AluOut.of · true) (sbc8_false a v).symm
  · rfl
  · exact congrArg (fun r => { AluOut.of r true with a := a }) (sbc8_false a v).symm

/-- Settles O45: the sum and its carries are those of `adc8` (O8). -/
theorem addToA : Obligations.AddToA := by
  intro s x withCarry
  obtain ⟨-, -, hadc, -⟩ := byteArithmetic s.a (srcValue s x) (withCarry && cf s)
  refine ⟨encode_alu _ x, ?_⟩
  obtain ⟨t, ht, hframe, ha, hflags⟩ := alu_of_exec s _ x (aluOut_add_adc s.a (srcValue s x) withCarry (cf s))
  rw [hadc] at ha hflags
  exact ⟨t, ht, hframe, ha, by rw [ha]; exact hflags⟩

/-- Settles O46: the difference and its borrows are those of `sbc8` (O8). -/
theorem subtractFromA : Obligations.SubtractFromA := by
  intro s x op hop
  obtain ⟨-, -, -, hsbc, -⟩ := byteArithmetic s.a (srcValue s x) (op = .sbc && cf s)
  obtain ⟨t, ht, hframe, ha, hflags⟩ := alu_of_exec s op x (aluOut_sub_sbc_cp hop s.a (srcValue s x) (cf s))
  rw [hsbc] at ha hflags
  exact ⟨encode_alu op x, t, ht, hframe, ha, hflags⟩

/-- SCF and CCF write C, clear N and H, and keep Z (R251, R252). -/
theorem putCarry_of_exec {i : Instr} {s : State} {c : Bool} (h : exec i s = putCarry c s) :
    ∃ t, exec i s = .next t ∧ t = { passed s 1 1 [] with f := t.f } ∧ FlagsAre t (zf s) false false c :=
  ⟨_, h, rfl, by rw [State.flagZ_eq]; exact flagsAre_setFlags_advance_spend ..⟩

/-- The complement of a byte as a number. -/
theorem xor_FF_toNat (a : Byte) : (a ^^^ 0xFF).toNat = 255 - a.toNat := by
  have hnot : a ^^^ 0xFF = ~~~a := BitVec.xor_allOnes
  rw [hnot, BitVec.toNat_not]

/-- Settles O48. -/
theorem carryAndComplement : Obligations.CarryAndComplement := by
  intro s
  refine ⟨rfl, rfl, rfl, putCarry_of_exec rfl, ?ccf, _, rfl, rfl, xor_FF_toNat s.a, ?cplFlags⟩
  case ccf => exact putCarry_of_exec (congrArg (fun c => putCarry (!c) s) s.flagC_eq)
  case cplFlags =>
    rw [State.flagZ_eq, State.flagC_eq]
    exact flagsAre_setFlags_advance_spend ..

/-! ### INC and DEC -/

theorem State.readLoc_value (s : State) (x : Loc8) : (s.readLoc x).1 = locValue s x := by
  cases x <;> rfl

theorem incCost_eq (x : Loc8) : incCost x = locCost 1 3 x := by
  cases x <;> rfl

/-- An instruction that reads its operand, writes it back as `v` and writes F is its frame with the operand set to `v`. -/
theorem puts_of_readLoc_writeLoc (s : State) (x : Loc8) (v : Byte) (z n h c : Bool) (len cost : Nat) :
    Puts (passed s len cost (locReads s x))
      (((((s.readLoc x).2.writeLoc x v).setFlags z n h c).advance len).spend cost) x v := by
  cases x with
  | reg r => cases r <;> rfl
  | mHL => exact ⟨rfl, storesByte_of_mem rfl⟩

/-- The sum that INC computes: its half-carry is out of a low nibble of all ones. -/
theorem add8_one (v : Byte) :
    (add8 v 1).result = u8 (v.toNat + 1) ∧ (add8 v 1).halfcarry = decide (v.toNat % 16 = 0xF) := by
  have hone : (1 : Byte).toNat = 1 := rfl
  refine ⟨congrArg Result8.result (byteArithmetic v 1 false).1, decide_eq_decide.mpr ?_⟩
  rw [hone]
  omega

/-- The difference that DEC computes: its half-borrow is into a low nibble of zeros. -/
theorem sub8_one (v : Byte) :
    (sub8 v 1).result = u8 (v.toNat - 1) ∧ (sub8 v 1).halfcarry = decide (v.toNat % 16 = 0) := by
  have hone : (1 : Byte).toNat = 1 := rfl
  refine ⟨congrArg Result8.result (byteArithmetic v 1 false).2.1, decide_eq_decide.mpr ?_⟩
  rw [hone]
  omega

/-- Settles O49. -/
theorem incrementAndDecrement : Obligations.IncrementAndDecrement := by
  intro s x
  obtain ⟨hadd, haddH⟩ := add8_one (locValue s x)
  obtain ⟨hsub, hsubH⟩ := sub8_one (locValue s x)
  have hc : s.flagC = cf s := s.flagC_eq
  refine ⟨encode_inc8 x, ⟨_, (exec_inc8 x s).trans ?inc, puts_of_readLoc_writeLoc .., flagsAre_setFlags_advance_spend ..⟩,
    encode_dec8 x, _, (exec_dec8 x s).trans ?dec, puts_of_readLoc_writeLoc .., flagsAre_setFlags_advance_spend ..⟩
  case inc => rw [incLoc, State.readLoc_value, hadd, haddH, hc, incCost_eq]
  case dec => rw [decLoc, State.readLoc_value, hsub, hsubH, hc, incCost_eq]

/-! ### DAA -/

/-- Reducing modulo 256 keeps the low nibble. -/
theorem u8_low_nibble (m : Int) : ((u8 m).toNat : Int) % 16 = m % 16 := by
  rw [u8, BitVec.toNat_ofInt]
  omega

/-- An adjustment that a condition asks for, in bytes and on unbounded integers. -/
theorem u8_add_if (b : Bool) (m k : Int) : u8 (if b then m + k else m) = if b then u8 m + u8 k else u8 m := by
  rw [apply_ite u8, u8_add]

theorem u8_sub_if (b : Bool) (m k : Int) : u8 (if b then m - k else m) = if b then u8 m - u8 k else u8 m := by
  rw [apply_ite u8, u8_sub]

/-- The adjustment in bytes is that of R250 on unbounded integers: after a subtraction it only subtracts, and after an addition the
test of the low nibble sees the same nibble. -/
theorem daaOut_eq (a : Byte) (n h c : Bool) :
    daaOut a n h c = ⟨u8 (daaValue a.toNat n h c).1, (daaValue a.toNat n h c).2⟩ := by
  cases n with
  | true =>
    simp only [daaValue, Bool.true_eq_false, if_false, u8_sub_if, u8_toNat]
    rfl
  | false =>
    have hhigh : ((a.toNat : Int) > 0x99) ↔ a.toNat > 0x99 := by omega
    have hlow (m : Int) : m % 16 > 0x09 ↔ (u8 m).toNat % 16 > 0x09 := by
      have := u8_low_nibble m
      omega
    simp only [daaValue, if_true, hhigh, hlow, u8_add_if, u8_toNat]
    rfl

/-- Settles O50. -/
theorem decimalAdjust : Obligations.DecimalAdjust := by
  intro s r
  have hn : s.flagN = nf s := s.flagN_eq
  have hr : daaOut s.a s.flagN s.flagH s.flagC = ⟨u8 r.1, r.2⟩ := by
    rw [State.flagH_eq, State.flagC_eq, hn]
    exact daaOut_eq ..
  refine ⟨rfl, _, rfl, rfl, congrArg DaaOut.a hr, ?flags⟩
  rw [hr, hn]
  exact flagsAre_setFlags_advance_spend ..

end Sys2Proof.Machine


/-! ## The 16-bit arithmetic

ADD HL is the sum of O9 with Z passed through; INC and DEC of a pair are pair loads of the pair moved by one. -/

namespace Sys2Proof.Machine

open Sys2Proof.Claims

theorem u16_sub (m n : Int) : u16 (m - n) = u16 m - u16 n := by
  rw [Int.sub_eq_add_neg, u16_add, u16, u16, u16, BitVec.ofInt_neg, BitVec.sub_eq_add_neg]

/-- R261: ADD HL,rr writes only HL and F; Z is the Z of before. -/
theorem addHL_of_exec (s : State) (p : Reg16) {r : Result16} (hr : add16 s.hl (s.get16 p) = r) :
    ∃ t, exec (Instr.addHL p) s = .next t ∧ t = { passed s 1 2 [] with h := t.h, l := t.l, f := t.f } ∧
      t.hl = r.result ∧ FlagsAre t (zf s) false r.halfcarry r.carry := by
  subst hr
  refine ⟨_, exec_addHL p s, rfl, cat_hi_lo _, ?flags⟩
  rw [State.flagZ_eq]
  exact flagsAre_setFlags_advance_spend ..

/-- Settles O51: the sum and its carries are those of `add16` (O9). -/
theorem pairArithmetic : Obligations.PairArithmetic := by
  intro s p w
  refine ⟨encode_addHL p, addHL_of_exec s p (wordArithmetic.1 s.hl (s.get16 p)), encode_inc16 p, ?inc, encode_dec16 p, ?dec⟩
  case inc => rw [exec_inc16, incPair, State.set16_advance_spend, u16_add, u16_toNat]; rfl
  case dec => rw [exec_dec16, decPair, State.set16_advance_spend, u16_sub, u16_toNat]; rfl

end Sys2Proof.Machine


/-! ## The 8-bit logic

AND, XOR and OR are word operations bit by bit; they differ otherwise only in H. -/

namespace Sys2Proof.Machine

open Sys2Proof.Claims

/-- The byte that AND, XOR or OR puts in A. -/
def logicByte (op : AluOp) (a v : Byte) : Byte :=
  if op = .and then a &&& v else if op = .xor then a ^^^ v else a ||| v

theorem getLsbD_logicByte (op : AluOp) (a v : Byte) (k : Nat) :
    (logicByte op a v).getLsbD k =
      if op = .and then a.getLsbD k && v.getLsbD k
      else if op = .xor then a.getLsbD k ^^ v.getLsbD k
      else a.getLsbD k || v.getLsbD k := by
  unfold logicByte
  split_ifs
  · exact BitVec.getLsbD_and
  · exact BitVec.getLsbD_xor
  · exact BitVec.getLsbD_or

/-- AND, XOR and OR have one outcome, whatever C was before; H is set for AND alone. -/
theorem aluOut_and_xor_or {op : AluOp} (hop : op = .and ∨ op = .xor ∨ op = .or) (a v : Byte) (c : Bool) :
    aluOut op a v c = AluOut.logic (logicByte op a v) (decide (op = .and)) := by
  rcases hop with rfl | rfl | rfl <;> rfl

/-- Settles O47: A is `logicByte`, whose bits are those of the operands combined. -/
theorem logicOnA : Obligations.LogicOnA := by
  intro s x op hop
  obtain ⟨t, ht, hframe, ha, hflags⟩ := alu_of_exec s op x (aluOut_and_xor_or hop s.a (srcValue s x) (cf s))
  refine ⟨encode_alu op x, t, ht, hframe, fun k => ?bits, ?flags⟩
  case bits => rw [ha]; exact getLsbD_logicByte ..
  case flags => rw [ha]; exact hflags

end Sys2Proof.Machine


/-! ## The bit instructions

`testBit_spec` settles the statement named after the model's `testBit`: BIT is its frame with F written. RES and SET are
the frame with the operand written as a byte that agrees with the old one in every other bit. -/

namespace Sys2Proof.Machine

open Sys2Proof.Claims

/-! ### BIT -/

/-- Settles O52: BIT reads its operand and writes F alone. -/
theorem testBit_spec : Obligations.TestBit := by
  intro s b x
  have hc : s.flagC = cf s := s.flagC_eq
  refine ⟨encode_bit b x, _, exec_bit b x s, ?frame, ?flags⟩
  case frame => cases x <;> rfl
  case flags =>
    rw [State.readLoc_value, hc]
    exact flagsAre_setFlags_advance_spend ..

/-! ### RES and SET -/

theorem cbCost_eq (x : Loc8) : cbCost x = locCost 2 4 x := by
  cases x <;> rfl

/-- The mask of RES and SET is the byte with the named bit alone. -/
theorem getLsbD_bitMask (b : Sel3) (k : Nat) : (bitMask b).getLsbD k = decide (k = b.toNat) := by
  have hb : b.toNat < 8 := by cases b <;> decide
  have hmask : bitMask b = BitVec.twoPow 8 b.toNat := rfl
  rw [hmask, BitVec.getLsbD_twoPow]
  simp [hb, eq_comm]

theorem getLsbD_and_not_bitMask (v : Byte) (b : Sel3) (k : Nat) :
    (v &&& ~~~bitMask b).getLsbD k = if k = b.toNat then false else v.getLsbD k := by
  rw [BitVec.getLsbD_and, BitVec.getLsbD_not, getLsbD_bitMask]
  split_ifs with hk
  · simp [hk]
  · have hwidth : v.getLsbD k = true → k < 8 := BitVec.lt_of_getLsbD
    simpa [hk] using hwidth

theorem getLsbD_or_bitMask (v : Byte) (b : Sel3) (k : Nat) :
    (v ||| bitMask b).getLsbD k = if k = b.toNat then true else v.getLsbD k := by
  rw [BitVec.getLsbD_or, getLsbD_bitMask]
  split_ifs with hk <;> simp [hk]

/-- An instruction that reads its operand and writes it back as `v`, and no flag, is its frame with the operand set to `v`. -/
theorem puts_of_readLoc_writeLoc_noFlags (s : State) (x : Loc8) (v : Byte) (len cost : Nat) :
    Puts (passed s len cost (locReads s x)) ((((s.readLoc x).2.writeLoc x v).advance len).spend cost) x v := by
  cases x with
  | reg r => cases r <;> rfl
  | mHL => exact ⟨rfl, storesByte_of_mem rfl⟩

/-- A prefixed instruction that reads its operand and writes it back as `v` puts `v` there and keeps F. -/
theorem puts_of_exec_cb {i : Instr} {s : State} {x : Loc8} {v : Byte}
    (h : exec i s = .next ((((s.readLoc x).2.writeLoc x v).advance 2).spend (cbCost x))) :
    ∃ t, exec i s = .next t ∧ Puts (passed s 2 (locCost 2 4 x) (locReads s x)) t x v ∧ t.f = s.f := by
  refine ⟨_, h, ?puts, ?flags⟩
  case puts => rw [cbCost_eq]; exact puts_of_readLoc_writeLoc_noFlags ..
  case flags => simp

/-- Settles O53: the byte written is the old one masked by `bitMask`, which has the named bit alone. -/
theorem resetAndSetBit : Obligations.ResetAndSetBit := by
  intro s b x u
  obtain ⟨t, hres, hput, hkeep⟩ := puts_of_exec_cb (exec_res b x s)
  obtain ⟨t', hset, hput', hkeep'⟩ := puts_of_exec_cb (exec_set b x s)
  rw [State.readLoc_value] at hput hput'
  exact ⟨encode_res b x, ⟨t, _, hres, hput, hkeep, getLsbD_and_not_bitMask _ b⟩,
    encode_set b x, t', _, hset, hput', hkeep', getLsbD_or_bitMask _ b⟩

end Sys2Proof.Machine


/-! ## The rotates and shifts

A shift by one with a bit put in at the free end is, as a number, the halved or doubled byte plus that bit: the operands of the OR
share no bit, so it is their sum. RLC, RL and SLA differ only in the bit put in, and so do RRC, RR, SRA and SRL. -/

namespace Sys2Proof.Machine

open Sys2Proof.Claims

/-! ### Shifts as numbers -/

theorem bitNat_bit (v : Byte) (i : Nat) : bitNat (bit v i) = v.toNat / 2 ^ i % 2 := by
  rw [← Nat.toNat_testBit, bit, BitVec.getLsbD]
  cases v.toNat.testBit i <;> rfl

theorem bit_zero (v : Byte) : bit v 0 = decide (v.toNat % 2 = 1) := Nat.testBit_zero v.toNat

theorem bit_seven (v : Byte) : bit v 7 = decide (v.toNat / 128 = 1) := by
  have hbit : bit v 7 = decide (v.toNat / 128 % 2 = 1) := Nat.testBit_eq_decide_div_mod_eq
  rw [hbit, Nat.mod_eq_of_lt]
  omega

/-- OR is the sum where one byte is a multiple of a power of two and the other is below it. -/
theorem or_toNat_eq_add {x y : Byte} {k m : Nat} (hx : x.toNat = 2 ^ k * m) (hy : y.toNat < 2 ^ k) :
    (x ||| y).toNat = x.toNat + y.toNat := by
  rw [BitVec.toNat_or, hx, Nat.two_pow_add_eq_or_of_lt hy]

theorem shiftLeft_one_toNat (v : Byte) : (v <<< 1).toNat = 2 * v.toNat % 256 := by
  rw [BitVec.toNat_shiftLeft, Nat.shiftLeft_eq, Nat.mul_comm]

theorem shiftRight_one_toNat (v : Byte) : (v >>> 1).toNat = v.toNat / 2 := by
  rw [BitVec.toNat_ushiftRight, Nat.shiftRight_one]

/-- A shift to the left with the bit `b` put in at bit 0. -/
theorem shiftLeft_or_toNat (v : Byte) (b : Bool) :
    (v <<< 1 ||| BitVec.ofNat 8 (bitNat b)).toNat = 2 * v.toNat % 256 + bitNat b := by
  have hb := bitNat_le b
  have hlow : (BitVec.ofNat 8 (bitNat b)).toNat = bitNat b := by rw [BitVec.toNat_ofNat]; omega
  have heven : (v <<< 1).toNat = 2 ^ 1 * (v.toNat % 128) := by rw [shiftLeft_one_toNat]; omega
  rw [or_toNat_eq_add heven (by omega), shiftLeft_one_toNat, hlow]

/-- A shift to the right with the bit `b` put in at bit 7. -/
theorem shiftRight_or_toNat (v : Byte) (b : Bool) :
    (v >>> 1 ||| BitVec.ofNat 8 (bitNat b * 128)).toNat = v.toNat / 2 + bitNat b * 128 := by
  have hb := bitNat_le b
  have hhigh : (BitVec.ofNat 8 (bitNat b * 128)).toNat = bitNat b * 128 := by rw [BitVec.toNat_ofNat]; omega
  have hlow : (v >>> 1).toNat < 2 ^ 7 := by rw [shiftRight_one_toNat]; omega
  rw [BitVec.or_comm, or_toNat_eq_add (hhigh.trans (Nat.mul_comm ..)) hlow, hhigh, shiftRight_one_toNat, Nat.add_comm]

/-- The sign bit that SRA keeps, in place. -/
theorem and_0x80_eq (v : Byte) : v &&& 0x80 = BitVec.ofNat 8 (bitNat (bit v 7) * 128) := by
  have hmask : (0x80 : Byte) = BitVec.twoPow 8 7 := rfl
  rw [hmask, BitVec.and_twoPow, bit]
  cases v.getLsbD 7 <;> rfl

/-- SWAP puts the low nibble above the high one. -/
theorem swap_toNat (v : Byte) : ((v &&& 0x0F) <<< 4 ||| v >>> 4).toNat = v.toNat % 16 * 16 + v.toNat / 16 := by
  have hmask : (v &&& 0x0F).toNat = v.toNat % 16 := Nat.and_two_pow_sub_one_eq_mod v.toNat 4
  have hhigh : ((v &&& 0x0F) <<< 4).toNat = 2 ^ 4 * (v.toNat % 16) := by
    rw [BitVec.toNat_shiftLeft, hmask, Nat.shiftLeft_eq]
    omega
  have hlow : (v >>> 4).toNat = v.toNat / 16 := by rw [BitVec.toNat_ushiftRight, Nat.shiftRight_eq_div_pow]
  rw [or_toNat_eq_add hhigh (by omega), hhigh, hlow]
  omega

/-! ### The results -/

theorem rotOut_left_toNat {op : RotOp} (hop : op = .rlc ∨ op = .rl ∨ op = .sla ∨ op = .swap) (v : Byte) (c : Bool) :
    (rotOut op v c).result.toNat = leftValue op v.toNat c := by
  rcases hop with rfl | rfl | rfl | rfl
  case inl =>
    have hout : bitNat (bit v 7) = v.toNat / 128 := by rw [bitNat_bit]; omega
    exact (shiftLeft_or_toNat v _).trans (congrArg (2 * v.toNat % 256 + ·) hout)
  case inr.inl => exact shiftLeft_or_toNat v c
  case inr.inr.inl => exact shiftLeft_one_toNat v
  case inr.inr.inr => exact swap_toNat v

theorem rotOut_left_carry {op : RotOp} (hop : op = .rlc ∨ op = .rl ∨ op = .sla ∨ op = .swap) (v : Byte) (c : Bool) :
    (rotOut op v c).carry = decide (v.toNat / 128 = 1 ∧ op ≠ .swap) := by
  rcases hop with rfl | rfl | rfl | rfl <;> simp [rotOut, bit_seven]

theorem rotOut_right_toNat {op : RotOp} (hop : op = .rrc ∨ op = .rr ∨ op = .sra ∨ op = .srl) (v : Byte) (c : Bool) :
    (rotOut op v c).result.toNat = rightValue op v.toNat c := by
  rcases hop with rfl | rfl | rfl | rfl
  case inl =>
    have hout : bitNat (bit v 0) = v.toNat % 2 := by rw [bitNat_bit, pow_zero, Nat.div_one]
    exact (shiftRight_or_toNat v _).trans (congrArg (v.toNat / 2 + · * 128) hout)
  case inr.inl => exact shiftRight_or_toNat v c
  case inr.inr.inl =>
    have hsign : bitNat (bit v 7) = v.toNat / 128 := by rw [bitNat_bit]; omega
    rw [rotOut, and_0x80_eq, shiftRight_or_toNat, hsign, rightValue]
  case inr.inr.inr => exact shiftRight_one_toNat v

theorem rotOut_right_carry {op : RotOp} (hop : op = .rrc ∨ op = .rr ∨ op = .sra ∨ op = .srl) (v : Byte) (c : Bool) :
    (rotOut op v c).carry = decide (v.toNat % 2 = 1) := by
  rcases hop with rfl | rfl | rfl | rfl <;> exact bit_zero v

/-! ### The instructions -/

theorem State.accRotFlagZ_eq (s : State) : s.accRotFlagZ = accZ s := by
  have hz : s.flagZ = zf s := s.flagZ_eq
  cases hp : s.params.accRotZ with
  | preserve => simp only [State.accRotFlagZ, accZ, hp, hz]
  | clear => simp only [State.accRotFlagZ, accZ, hp]

/-- R320: an accumulator rotate changes only A and F, as `rotOut` says; Z is the parameter's. -/
theorem rotA_of_exec (s : State) (x : AccRot) {v : Nat} {c : Bool}
    (hv : (rotOut x.toRot s.a (cf s)).result.toNat = v) (hc : (rotOut x.toRot s.a (cf s)).carry = c) :
    ∃ t, exec (Instr.rotA x) s = .next t ∧ t = { passed s 1 1 [] with a := t.a, f := t.f } ∧ t.a.toNat = v ∧
      FlagsAre t (accZ s) false false c := by
  have hcf : s.flagC = cf s := s.flagC_eq
  rw [← hcf] at hv hc
  refine ⟨_, exec_rotA x s, rfl, hv, ?flags⟩
  rw [← hc, ← State.accRotFlagZ_eq]
  exact flagsAre_setFlags_advance_spend ..

/-- A prefixed rotate or shift puts the result of `rotOut` in its operand and writes F, with Z from the result. -/
theorem rot_of_exec (s : State) (op : RotOp) (x : Loc8) {v : Nat} {c : Bool}
    (hv : (rotOut op (locValue s x) (cf s)).result.toNat = v) (hc : (rotOut op (locValue s x) (cf s)).carry = c) :
    ∃ t, exec (Instr.rot op x) s = .next t ∧
      Puts (passed s 2 (locCost 2 4 x) (locReads s x)) t x (BitVec.ofNat 8 v) ∧
      FlagsAre t (decide (BitVec.ofNat 8 v = 0)) false false c := by
  have hcf : s.flagC = cf s := s.flagC_eq
  have hr : (rotOut op (locValue s x) (cf s)).result = BitVec.ofNat 8 v := BitVec.eq_of_toNat_eq (by rw [← hv]; simp)
  refine ⟨_, (exec_rot op x s).trans ?out, puts_of_readLoc_writeLoc .., flagsAre_setFlags_advance_spend ..⟩
  rw [rotateLoc, State.readLoc_value, hcf, hr, hc, cbCost_eq]

/-- Settles O54: the four rotate A as their prefixed operations do, with Z by the parameter. -/
theorem rotateAccumulator : Obligations.RotateAccumulator := by
  intro s z v
  refine ⟨rfl, rfl, rfl, rfl, ?rlca, ?rrca, ?rla, ?rra⟩
  case rlca => exact rotA_of_exec s .rlca (rotOut_left_toNat (by decide) ..) (bit_seven s.a)
  case rrca => exact rotA_of_exec s .rrca (rotOut_right_toNat (by decide) ..) (bit_zero s.a)
  case rla => exact rotA_of_exec s .rla (rotOut_left_toNat (by decide) ..) (bit_seven s.a)
  case rra => exact rotA_of_exec s .rra (rotOut_right_toNat (by decide) ..) (bit_zero s.a)

/-- Settles O55. -/
theorem rotateLeft : Obligations.RotateLeft := by
  intro s op x hop v r
  exact ⟨encode_rot op x, rot_of_exec s op x (rotOut_left_toNat hop ..) (rotOut_left_carry hop ..)⟩

/-- Settles O56. -/
theorem rotateRight : Obligations.RotateRight := by
  intro s op x hop v r
  exact ⟨encode_rot op x, rot_of_exec s op x (rotOut_right_toNat hop ..) (rotOut_right_carry hop ..)⟩

end Sys2Proof.Machine

/-! ## On a FLAT bus costs and accesses do not feed back

`State.withPast` puts a past of cycles and accesses before those of a state. On a FLAT bus every operation commutes with it, from
`busValue` up to `step`, so that a step with any past is the step without one, with that past put before it. -/

namespace Sys2Proof.Machine

/-- `s` with `k` cycles and the accesses `past` before its own (log 5, log 6). -/
def State.withPast (s : State) (k : Nat) (past : List BusAccess) : State :=
  { s with cycles := k + s.cycles, busLog := s.busLog ++ past }

/-- `s` with neither cycles nor accesses behind it. -/
def State.withoutPast (s : State) : State := { s with cycles := 0, busLog := [] }

/-- Any sum of cycles and record of accesses is a past put before none. -/
theorem State.withPast_withoutPast (s : State) (k : Nat) (past : List BusAccess) :
    s.withoutPast.withPast k past = { s with cycles := k, busLog := past } := rfl

/-- The same for every state that an outcome holds. -/
def outWithPast (k : Nat) (past : List BusAccess) : Out → Out
  | .next s => .next (s.withPast k past)
  | .fault (.invalidOpcode byte pre left) => .fault (.invalidOpcode byte pre (left.withPast k past))
  | .fault .contractViolation => .fault .contractViolation
  | .refused r => .refused r

section
variable {k : Nat} {past : List BusAccess}

/-- An outcome with a past goes on exactly where the one without it does. -/
theorem outWithPast_eq_next {o : Out} {t : State} :
    outWithPast k past o = .next t ↔ ∃ u, o = .next u ∧ t = u.withPast k past := by
  rcases o with u | r | r
  · simp [outWithPast, eq_comm]
  · cases r <;> simp [outWithPast]
  · simp [outWithPast]

theorem mapNext_outWithPast {g : State → State}
    (hg : ∀ u : State, g (u.withPast k past) = (g u).withPast k past) (o : Out) :
    mapNext g (outWithPast k past o) = outWithPast k past (mapNext g o) := by
  rcases o with u | r | r
  · exact congrArg Host.Outcome.next (hg u)
  · cases r <;> rfl
  · rfl

theorem endTurn_outWithPast (o : Out) : endTurn (outWithPast k past o) = outWithPast k past (endTurn o) := by
  rcases o with u | r | r
  · rfl
  · cases r <;> rfl
  · rfl

end

section
variable (s : State) (k : Nat) (past : List BusAccess)

@[simp] theorem outWithPast_next : outWithPast k past (.next s) = .next (s.withPast k past) := rfl

@[simp] theorem State.withPast_a : (s.withPast k past).a = s.a := rfl
@[simp] theorem State.withPast_ime : (s.withPast k past).ime = s.ime := rfl
@[simp] theorem State.withPast_hl : (s.withPast k past).hl = s.hl := rfl
@[simp] theorem State.withPast_flagZ : (s.withPast k past).flagZ = s.flagZ := rfl
@[simp] theorem State.withPast_flagC : (s.withPast k past).flagC = s.flagC := rfl
@[simp] theorem State.withPast_accRotFlagZ : (s.withPast k past).accRotFlagZ = s.accRotFlagZ := rfl
@[simp] theorem State.withPast_nextPC (n : Nat) : (s.withPast k past).nextPC n = s.nextPC n := rfl
@[simp] theorem State.withPast_relTarget (e : Byte) : (s.withPast k past).relTarget e = s.relTarget e := rfl
@[simp] theorem State.withPast_input : (s.withPast k past).input = s.input := rfl
@[simp] theorem State.withPast_irqPending : (s.withPast k past).irqPending = s.irqPending := rfl
@[simp] theorem State.withPast_get8 (r : Reg8) : (s.withPast k past).get8 r = s.get8 r := by cases r <;> rfl
@[simp] theorem State.withPast_get16 (p : Reg16) : (s.withPast k past).get16 p = s.get16 p := by cases p <;> rfl
@[simp] theorem State.withPast_get16s (p : Reg16S) : (s.withPast k past).get16s p = s.get16s p := by cases p <;> rfl
@[simp] theorem State.withPast_cond (cc : Cond) : (s.withPast k past).cond cc = s.cond cc := by cases cc <;> rfl
@[simp] theorem IndA.addr_withPast (x : IndA) : x.addr (s.withPast k past) = x.addr s := by cases x <;> rfl

@[simp] theorem State.withPast_set8 (r : Reg8) (v : Byte) :
    (s.withPast k past).set8 r v = (s.set8 r v).withPast k past := by
  cases r <;> rfl
@[simp] theorem State.withPast_set16 (p : Reg16) (w : Word) :
    (s.withPast k past).set16 p w = (s.set16 p w).withPast k past := by
  cases p <;> rfl
@[simp] theorem State.withPast_set16s (p : Reg16S) (w : Word) :
    (s.withPast k past).set16s p w = (s.set16s p w).withPast k past := by
  cases p <;> rfl
@[simp] theorem State.withPast_setHL (w : Word) : (s.withPast k past).setHL w = (s.setHL w).withPast k past := rfl
@[simp] theorem State.withPast_setFlags (z n h c : Bool) :
    (s.withPast k past).setFlags z n h c = (s.setFlags z n h c).withPast k past := rfl
@[simp] theorem State.withPast_logAccess (x : BusAccess) :
    (s.withPast k past).logAccess x = (s.logAccess x).withPast k past := rfl
@[simp] theorem State.withPast_busWrite (x : Word) (v : Byte) :
    (s.withPast k past).busWrite x v = (s.busWrite x v).withPast k past := rfl
@[simp] theorem State.withPast_writeLoc (x : Loc8) (v : Byte) :
    (s.withPast k past).writeLoc x v = (s.writeLoc x v).withPast k past := by
  cases x with
  | reg r => exact State.withPast_set8 s k past r v
  | mHL => rfl
@[simp] theorem State.withPast_push16 (w : Word) : (s.withPast k past).push16 w = (s.push16 w).withPast k past := rfl
@[simp] theorem State.withPast_writePC (w : Word) : (s.withPast k past).writePC w = (s.writePC w).withPast k past := rfl
@[simp] theorem State.withPast_advance (n : Nat) : (s.withPast k past).advance n = (s.advance n).withPast k past := rfl
@[simp] theorem State.withPast_spend (n : Nat) : (s.withPast k past).spend n = (s.spend n).withPast k past := by
  simp [State.withPast, State.spend, Nat.add_assoc]
@[simp] theorem State.withPast_stepEnd (i : Ime) (x : Byte) :
    (s.withPast k past).stepEnd i x = (s.stepEnd i x).withPast k past := by
  unfold State.stepEnd; split <;> rfl
@[simp] theorem State.withPast_wakeIfAsked : (s.withPast k past).wakeIfAsked = s.wakeIfAsked.withPast k past := by
  unfold State.wakeIfAsked; rw [State.withPast_input]; split <;> rfl
end

section
variable {s : State} (hb : s.params.bus = .flat) (k : Nat) (past : List BusAccess)
include hb

/-- A FLAT bus answers from the storage alone. -/
theorem State.withPast_busValue (x : Word) : (s.withPast k past).busValue x = s.busValue x := by
  rw [State.busValue_flat _ x hb, State.busValue_flat (s.withPast k past) x hb]
  rfl

theorem State.withPast_busRead (x : Word) :
    (s.withPast k past).busRead x = ((s.busRead x).1, (s.busRead x).2.withPast k past) := by
  simp [State.busRead, State.withPast_busValue hb]

theorem State.withPast_pop16 : (s.withPast k past).pop16 = (s.pop16.1, s.pop16.2.withPast k past) := by
  have h2 (x : BusAccess) (w : Word) := State.withPast_busValue (s := s.logAccess x) hb k past w
  simp only [State.pop16_eq, State.withPast_logAccess, State.withPast_busValue hb, h2]
  rfl

theorem State.withPast_readLoc (x : Loc8) :
    (s.withPast k past).readLoc x = ((s.readLoc x).1, (s.readLoc x).2.withPast k past) := by
  cases x with
  | reg r => simp
  | mHL => exact State.withPast_busRead hb k past s.hl

theorem State.withPast_readSrc (x : AluSrc) :
    (s.withPast k past).readSrc x = ((s.readSrc x).1, (s.readSrc x).2.withPast k past) := by
  cases x with
  | reg r => simp
  | mHL => exact State.withPast_busRead hb k past s.hl
  | d8 n => rfl

theorem State.withPast_fetchFrom (i n : Nat) :
    (s.withPast k past).fetchFrom i n = ((s.fetchFrom i n).1, (s.fetchFrom i n).2.withPast k past) := by
  induction n generalizing s i with
  | zero => rfl
  | succ n ih =>
    have hf : (s.withPast k past).fetch i = ((s.fetch i).1, (s.fetch i).2.withPast k past) :=
      State.withPast_busRead hb k past _
    have hq := ih (s := (s.fetch i).2) hb (i + 1)
    simp only [State.fetchFrom, hf, hq]

theorem fetchInstr_withPast :
    fetchInstr (s.withPast k past) = { fetchInstr s with state := (fetchInstr s).state.withPast k past } := by
  have hf : (s.withPast k past).fetch 0 = ((s.fetch 0).1, (s.fetch 0).2.withPast k past) :=
    State.withPast_busRead hb k past _
  have hq (n : Nat) := State.withPast_fetchFrom (s := (s.fetch 0).2) hb k past 1 n
  simp only [fetchInstr, hf, hq]

/-- An instruction does the same with any past: what it reads on the bus is the same, and it adds to the past. -/
theorem exec_withPast (i : Instr) : exec i (s.withPast k past) = outWithPast k past (exec i s) := by
  induction i using instr_cases with
  | h_ldRR dst r => simp [exec_ldRR, ldRegReg]
  | h_ldRI dst v => simp [exec_ldRI, ldRegImm]
  | h_ldRM dst => simp [exec_ldRM, ldRegMem, State.withPast_busRead hb]
  | h_ldMR r => simp [exec_ldMR, ldMemReg]
  | h_ldAInd x => simp [exec_ldAInd, loadA, State.withPast_busRead hb]
  | h_stAInd x => simp [exec_stAInd, storeA]
  | h_ldAPost x => simp [exec_ldAPost, loadAPost, State.withPast_busRead hb]
  | h_stAPost x => simp [exec_stAPost, storeAPost]
  | h_ldRRI p nn => simp [exec_ldRRI, ldPairImm]
  | h_push p => simp [exec_push, pushPair]
  | h_pop p => simp [exec_pop, popPair, State.withPast_pop16 hb]
  | h_alu op x => simp [exec_alu, aluA, State.withPast_readSrc hb]
  | h_inc8 x => simp [exec_inc8, incLoc, State.withPast_readLoc hb]
  | h_dec8 x => simp [exec_dec8, decLoc, State.withPast_readLoc hb]
  | h_inc16 p => simp [exec_inc16, incPair]
  | h_dec16 p => simp [exec_dec16, decPair]
  | h_addHL p => simp [exec_addHL, addHLPair]
  | h_rotA x => simp [exec_rotA, rotateA]
  | h_rot op x => simp [exec_rot, rotateLoc, State.withPast_readLoc hb]
  | h_bit b x => simp [exec_bit, testBit, State.withPast_readLoc hb]
  | h_res b x => simp [exec_res, resetBit, State.withPast_readLoc hb]
  | h_set b x => simp [exec_set, setBit, State.withPast_readLoc hb]
  | h_jpCC cc nn => simp only [exec_jpCC, jumpIf, State.withPast_cond]; split <;> simp
  | h_jrCC cc e => simp only [exec_jrCC, jumpRelIf, State.withPast_cond]; split <;> simp
  | h_callCC cc nn => simp only [exec_callCC, callIf, State.withPast_cond]; split <;> simp
  | h_retCC cc => simp only [exec_retCC, returnIf, State.withPast_cond, State.withPast_pop16 hb]; split <;> simp
  | h_rst y => simp [exec_rst, restart]
  | h_ret =>
    show returnSub _ = outWithPast k past (returnSub s)
    simp [returnSub, State.withPast_pop16 hb]
  | h_reti =>
    show exec_reti _ = outWithPast k past (exec_reti s)
    simp only [exec_reti, returnFromInterrupt, State.withPast_pop16 hb]
    rfl
  | h_halt => simp only [exec_halt_eq]; rfl
  | h_ei => simp only [exec_ei_eq]; rfl
  | _ => rfl

theorem instrStep_withPast : instrStep (s.withPast k past) = outWithPast k past (instrStep s) := by
  obtain ⟨acc, -, -, hs⟩ := fetchInstr_reads s
  have he := exec_withPast (s := (fetchInstr s).state) (by rw [hs]; exact hb) k past (fetchInstr s).instr
  simp only [instrStep, fetchInstr_withPast hb, he, State.withPast_ime]
  exact mapNext_outWithPast (fun u => State.withPast_stepEnd u k past _ _) _

theorem coreStep_withPast : coreStep (s.withPast k past) = outWithPast k past (coreStep s) := by
  unfold coreStep
  rw [apply_ite (outWithPast k past), apply_ite (outWithPast k past), ← instrStep_withPast hb]
  rfl
end

theorem serviceInterrupt_withPast (s : State) (k : Nat) (past : List BusAccess) (v : Word) :
    serviceInterrupt (s.withPast k past) v = outWithPast k past (serviceInterrupt s v) := by
  unfold serviceInterrupt
  rw [apply_ite (outWithPast k past)]
  rfl

theorem step_withPast {s : State} (hb : s.params.bus = .flat) (k : Nat) (past : List BusAccess) :
    step (s.withPast k past) = outWithPast k past (step s) := by
  have hw : s.wakeIfAsked.params.bus = .flat := by rw [State.wakeIfAsked_params, hb]
  simp only [step, boundary, State.withPast_wakeIfAsked, State.withPast_ime, State.withPast_irqPending, State.withPast_input,
    serviceInterrupt_withPast, coreStep_withPast hw, endTurn_outWithPast, apply_ite (outWithPast k past)]

/-- R446: an instruction costs from 1 to 6. -/
theorem Effect.cost {i : Instr} {s t : State} (h : Effect i s t) : s.cycles + 1 ≤ t.cycles ∧ t.cycles ≤ s.cycles + 6 := by
  cases h with
  | ldAInd x | stAInd x => cases x <;> simp [IndA.cost]
  | alu op x => cases x <;> simp [aluCost]
  | inc8 x | dec8 x => cases x <;> simp [incCost]
  | rot op x | res b x | set b x => cases x <;> simp [cbCost]
  | bit b x => cases x <;> simp [bitCost]
  | _ => simp

/-- An interrupt entry costs 5 (R407), a sleeping step 1 (R386), and fetching nothing beside the instruction. -/
theorem step_cost {s t : State} (h : step s = .next t) : s.cycles + 1 ≤ t.cycles ∧ t.cycles ≤ s.cycles + 6 := by
  rcases step_cases h with ⟨⟨hi, -⟩, u, hu, rfl⟩ | ⟨-, -, rfl⟩ | ⟨-, -, -, rfl⟩ | ⟨-, -, -, u, hu, rfl⟩
  · rw [serviceInterrupt_eq _ (by simpa using hi)] at hu
    cases hu
    simp
  · simp
  · simp
  · obtain ⟨acc, -, -, hf⟩ := fetchInstr_reads s.wakeIfAsked
    simpa [hf] using (effect_of_exec hu).cost

/-- Settles O33: the cost and the accesses are those of the step from the state without a past. -/
theorem costsDoNotFeedBack : Obligations.CostsDoNotFeedBack := by
  intro s t hb h
  have hstep (k : Nat) (past : List BusAccess) := step_withPast (s := s.withoutPast) hb k past
  have hs : s.withoutPast.withPast s.cycles s.busLog = s := s.withPast_withoutPast s.cycles s.busLog
  obtain ⟨u, hu, rfl⟩ := outWithPast_eq_next.mp ((hstep s.cycles s.busLog).symm.trans (hs ▸ h))
  obtain ⟨hmin, hmax⟩ : 0 + 1 ≤ u.cycles ∧ u.cycles ≤ 0 + 6 := step_cost hu
  refine ⟨u.cycles, u.busLog, hmin, hmax, fun k past => ?_⟩
  rw [← State.withPast_withoutPast, hstep, hu]
  rfl

end Sys2Proof.Machine

/-! ## Control transfers and CPU control -/

namespace Sys2Proof.Machine

open Sys2Proof.Claims

/-- R350: the model's condition is that of the rules. -/
theorem State.cond_eq_holds (s : State) (cc : Cond) : s.cond cc = holds s cc := by
  cases cc <;> simp [State.cond, holds, zf, cf, State.flagZ_eq, State.flagC_eq]

/-- R357: the target of a relative jump, on unbounded integers. -/
theorem State.relTarget_eq (s : State) (e : Byte) : s.relTarget e = u16 ((s.nextPC 2).toNat + e.toInt) := by
  rw [u16_add, u16_toNat, u16_toInt, State.relTarget]

/-- Settles O57. -/
theorem jumps : Obligations.Jumps := by
  intro s cc nn e
  refine ⟨rfl, rfl, encode_jpCC cc nn, ?jpCC, rfl, rfl, rfl, ?jr, encode_jrCC cc e, ?jrCC⟩
  case jr => rw [← State.relTarget_eq]; rfl
  case jpCC =>
    rw [exec_jpCC, jumpIf, State.cond_eq_holds]
    cases holds s cc <;> rfl
  case jrCC =>
    rw [exec_jrCC, jumpRelIf, State.cond_eq_holds, State.relTarget_eq]
    cases holds s cc <;> rfl

/-- Settles O58: CALL, a call taken and RST are each one push and a jump. -/
theorem callsAndRestarts : Obligations.CallsAndRestarts := by
  intro s cc nn y
  have htarget : u16 (8 * y.toNat) = rstTarget y := u16_natCast (8 * y.toNat)
  refine ⟨rfl, pushed_of_exec rfl, encode_callCC cc nn, ?callCC, encode_rst y, ?rst⟩
  case callCC => rw [exec_callCC, callIf, State.cond_eq_holds]; rfl
  case rst => rw [htarget]; exact pushed_of_exec (exec_rst y s)

/-- A return pops the word it goes on at (R202, R361). -/
theorem State.writePC_pop16 (s : State) (cost : Nat) :
    (s.pop16.2.writePC s.pop16.1).spend cost =
      { went s (popWord s) cost (popLog s) with sp := u16 (s.sp.toNat + 2) } := by
  rw [State.pop16_eq_popLog, u16_add, u16_toNat]
  rfl

/-- Settles O59: RETI is a RET that enables interrupts. -/
theorem returns : Obligations.Returns := by
  intro s cc sp
  refine ⟨rfl, congrArg Host.Outcome.next (s.writePC_pop16 4), encode_retCC cc, ?retCC, rfl, ?reti⟩
  case retCC =>
    rw [exec_retCC, returnIf, State.cond_eq_holds]
    cases holds s cc
    · rfl
    · exact congrArg Host.Outcome.next (s.writePC_pop16 5)
  case reti =>
    exact congrArg (fun u : State => Host.Outcome.next { u with ime := .enabled }) (s.writePC_pop16 4)

/-- Settles O60. -/
theorem controlInstructions : Obligations.ControlInstructions :=
  fun s _ => ⟨rfl, rfl, rfl, rfl, rfl, exec_ei_eq s, rfl, exec_halt_eq s, rfl, rfl⟩

end Sys2Proof.Machine

/-! ## The boundary: Wake, interrupt entry, the steps that execute nothing, and the report of an invalid opcode -/

namespace Sys2Proof.Machine

open Sys2Proof.Claims

/-- Settles O26. -/
theorem everyInstructionCompletes : Obligations.EveryInstructionCompletes :=
  fun _ s hi => exec_completes hi s

/-- A state that Wake leaves stopped was not woken (log 8). -/
theorem State.wakeIfAsked_of_stopped {s : State} (h : s.wakeIfAsked.stopped = true) : s.wakeIfAsked = s := by
  unfold State.wakeIfAsked at h ⊢
  split
  · rename_i hw
    rw [if_pos hw] at h
    cases h
  · rfl

/-- A state not stopped after Wake differs from the one before in `stopped` alone (R414). -/
theorem State.wakeIfAsked_of_not_stopped {s : State} (h : s.wakeIfAsked.stopped = false) :
    s.wakeIfAsked = { s with stopped := false } := by
  unfold State.wakeIfAsked at h ⊢
  split
  · rfl
  · rename_i hw
    rw [if_neg hw] at h
    rw [← h]

/-- Settles O19: Wake leaves the same state, whether or not the state it was asked for in was stopped. -/
theorem wakeLeavesStopped : Obligations.WakeLeavesStopped := by
  intro s
  refine ⟨rfl, fun h => ?idle, fun h => ?turn⟩
  case idle => rw [State.wake, ← h]
  case turn =>
    have hwake : s.wakeIfAsked = { s with stopped := false }.wakeIfAsked := by
      rw [State.wakeIfAsked, State.wakeIfAsked, if_pos h]
      exact (if_pos h).symm
    simp only [step, boundary, hwake]

/-- R407: the return address of an interrupt entry. -/
theorem State.interruptReturn_eq (s : State) :
    s.interruptReturn =
      if s.haltBug = true ∧ s.params.haltBugIrqReturn = .pcMinus1 then u16 (s.pc.toNat - 1) else s.pc := by
  have hpc : u16 (s.pc.toNat - 1) = s.pc - 1 := by simpa using u16_add_sub s.pc 0 1
  rw [hpc, State.interruptReturn]
  cases s.haltBug <;> cases s.params.haltBugIrqReturn <;> rfl

/-- Settles O17. -/
theorem interruptEntry : Obligations.InterruptEntry := by
  intro s v ret
  refine ⟨fun h => if_neg h, fun h => ?_⟩
  have hret : ret = s.interruptReturn := s.interruptReturn_eq.symm
  rw [hret]
  exact ⟨_, serviceInterrupt_eq v h, storesTwo_of_mem rfl, rfl⟩

/-- R406: at a boundary without service the turn is the core's step. -/
theorem step_of_not_services {s : State} (h : ¬ Services s) : step s = endTurn (coreStep s.wakeIfAsked) := by
  rw [step, boundary, State.wakeIfAsked_ime, State.wakeIfAsked_irqPending]
  exact if_neg h

/-- R406: at a boundary with service the turn is the interrupt entry at the collaborator's vector. The entry keeps the inputs, so
that the one used up is that of the boundary. -/
theorem step_of_services {s : State} (h : Services s) :
    ∃ t, serviceInterrupt s.wakeIfAsked s.input.vector = .next t ∧ step s = .next { t with inputs := s.inputs.tail } := by
  have hi : s.wakeIfAsked.ime = .enabled := by rw [State.wakeIfAsked_ime]; exact h.1
  refine ⟨_, serviceInterrupt_eq _ hi, ?_⟩
  rw [step, boundary, State.wakeIfAsked_ime, State.wakeIfAsked_irqPending, State.wakeIfAsked_input, serviceInterrupt_eq _ hi]
  exact (if_pos h).trans (by simp [State.dropInput])

/-- Settles O18. -/
theorem interruptAtBoundary : Obligations.InterruptAtBoundary :=
  fun _ => ⟨step_of_services, step_of_not_services⟩

/-- Settles O16. -/
theorem sleepingStep : Obligations.SleepingStep := by
  intro s hs
  rw [step_of_not_services hs]
  refine ⟨fun hstop => ?stopped, fun hstop hhalt => ?halted⟩
  case stopped =>
    rw [coreStep, if_pos hstop, State.wakeIfAsked_of_stopped hstop]
    rfl
  case halted =>
    rw [coreStep, hstop, State.wakeIfAsked_halted, hhalt, State.wakeIfAsked_irqPending,
      State.wakeIfAsked_of_not_stopped hstop]
    rfl

/-- The step on an invalid byte, in the words of the statements (R401). -/
theorem coreStep_of_mem_INVALID11 {s : State} (hstop : s.stopped = false) (hhalt : s.halted = false)
    (hb : s.busValue s.pc ∈ INVALID11) :
    coreStep s = .fault (.invalidOpcode (s.busValue s.pc) false (reported s)) :=
  coreStep_invalid hstop hhalt (unprefixed_of_invalid hb)

/-- A turn on an invalid byte reports it. -/
theorem step_of_mem_INVALID11 {s : State} (ha : Awake s) (hb : s.busValue s.pc ∈ INVALID11) :
    step s =
      .fault (.invalidOpcode (s.busValue s.pc) false { reported s with stopped := false, inputs := s.inputs.tail }) := by
  obtain ⟨hstop, hhalt, hserv⟩ := ha
  rw [step_of_not_services hserv, State.wakeIfAsked_of_not_stopped hstop]
  exact congrArg endTurn (coreStep_of_mem_INVALID11 (s := { s with stopped := false }) rfl hhalt hb)

/-- Settles O20: on a FLAT bus the recorded read changes no answer. -/
theorem invalidByteFaults : Obligations.InvalidByteFaults := by
  refine fun s hb => ⟨fun hstop hhalt => ⟨coreStep_of_mem_INVALID11 hstop hhalt hb, fun hflat => ?_⟩,
    fun ha => step_of_mem_INVALID11 ha hb⟩
  have hagain : (reported s).busValue (reported s).pc = s.busValue s.pc := by
    rw [State.busValue_flat (reported s) _ hflat, State.busValue_flat s _ hflat]
    rfl
  rw [← hagain] at hb ⊢
  exact coreStep_of_mem_INVALID11 hstop hhalt hb

/-- Where the byte at PC is valid, an instruction is fetched that completes (R111, R403). -/
theorem step_continues_of_valid {s : State} (ha : Awake s) (hb : s.busValue s.pc ∉ INVALID11) : ∃ t, step s = .next t := by
  obtain ⟨hstop, hhalt, hserv⟩ := ha
  have hvalid : ¬ Invalid (fetchInstr s.wakeIfAsked).instr := by
    have hd := decode_fetchInstr s.wakeIfAsked
    rw [State.fetchFrom_zero_bytes, State.wakeIfAsked_busValue, State.wakeIfAsked_pc] at hd
    exact fun hi => hb (mem_INVALID11_of_decode hd hi)
  obtain ⟨u, hu⟩ := exec_completes hvalid (fetchInstr s.wakeIfAsked).state
  rw [step_executes hstop hhalt hserv, hu]
  exact ⟨_, rfl⟩

/-- A turn that neither services an interrupt nor is awake sleeps: it goes on and keeps IME (R386). -/
theorem step_of_not_awake {s : State} (hs : ¬ Services s) (ha : ¬ Awake s) : ∃ t, step s = .next t ∧ t.ime = s.ime := by
  obtain ⟨hstopped, hhalted⟩ := sleepingStep s hs
  by_cases hstop : s.wakeIfAsked.stopped = true
  · exact ⟨_, hstopped hstop, rfl⟩
  · rw [Bool.not_eq_true] at hstop
    have hhalt : s.halted = true := by
      by_contra hh
      exact ha ⟨hstop, by simpa using hh, hs⟩
    exact ⟨_, hhalted hstop hhalt, rfl⟩

/-- Settles O21: an interrupt entry, a sleeping step and a valid instruction go on; an invalid byte is reported. -/
theorem onlyInvalidOpcodeStops : Obligations.OnlyInvalidOpcodeStops := by
  intro s
  by_cases hs : Services s
  · obtain ⟨t, -, ht⟩ := step_of_services hs
    exact .inl ⟨_, ht⟩
  by_cases ha : Awake s
  · by_cases hb : s.busValue s.pc ∈ INVALID11
    · exact .inr ⟨ha, hb, step_of_mem_INVALID11 ha hb⟩
    · exact .inl (step_continues_of_valid ha hb)
  · obtain ⟨t, ht, -⟩ := step_of_not_awake hs ha
    exact .inl ⟨t, ht⟩

/-! ### IME -/

/-- An instruction whose first byte is a one-byte opcode is the instruction of that opcode (R101). -/
theorem eq_of_encode_eq_cons {i j : Instr} {b0 : Byte} {ops : List Byte} (hw : i.wellFormed = true) (he : encode i = b0 :: ops)
    (hu : unprefixed b0 = .u1 j) : i = j := by
  have hd := decode_encode hw []
  rw [he, List.append_nil] at hd
  obtain ⟨_, -, -, rfl⟩ := decode_cons_eq_ok.mp hd
  rw [hu]
  rfl

/-- R388: what an instruction and StepEnd (R387) make of IME depends on the first byte alone, because DI, EI and RETI, each of one
byte, are the only instructions that write it. -/
theorem exec_ime_stepEnd {i : Instr} {b0 : Byte} {ops : List Byte} {s t : State} (hw : i.wellFormed = true)
    (he : encode i = b0 :: ops) (h : exec i s = .next t) : (t.stepEnd s.ime b0).ime = imeAfter s.ime b0 := by
  rw [State.stepEnd_ime]
  by_cases hdi : i = .di
  · subst hdi; cases he; cases h
    simp [imeAfter]
  by_cases hei : i = .ei
  · subst hei; cases he
    rw [exec_ei_eq] at h; cases h
    cases s.ime <;> rfl
  by_cases hreti : i = .reti
  · subst hreti; cases he; cases h
    simp [imeAfter, returnFromInterrupt]
  have hkeep : t.ime = s.ime := by
    by_contra hne
    obtain ⟨hwriters, -⟩ := controlStateWriters i s t h
    exact (hwriters hne).elim hdi (Or.elim · hei hreti)
  have h1 : b0 ≠ 0xF3 := by rintro rfl; exact hdi (eq_of_encode_eq_cons hw he rfl)
  have h2 : b0 ≠ 0xD9 := by rintro rfl; exact hreti (eq_of_encode_eq_cons hw he rfl)
  have h3 : b0 ≠ 0xFB := by rintro rfl; exact hei (eq_of_encode_eq_cons hw he rfl)
  rw [hkeep]
  unfold imeAfter
  rw [if_neg h1, if_neg h2, if_neg h3]
  cases s.ime with
  | pending => exact if_pos ⟨rfl, h1⟩
  | disabled | enabled => rfl

theorem step_ime_of_services {s t : State} (hs : Services s) (h : step s = .next t) : t.ime = .disabled := by
  obtain ⟨u, hu, hstep⟩ := step_of_services hs
  obtain ⟨hime, -⟩ := hs
  rw [serviceInterrupt_eq _ (by rw [State.wakeIfAsked_ime, hime])] at hu
  cases hu
  cases hstep.symm.trans h
  rfl

theorem step_ime_of_awake {s t : State} (ha : Awake s) (h : step s = .next t) : t.ime = imeAfter s.ime (s.busValue s.pc) := by
  obtain ⟨hstop, hhalt, hserv⟩ := ha
  rw [step_executes hstop hhalt hserv] at h
  obtain ⟨u, hu, rfl⟩ := endTurn_eq_next.mp h
  obtain ⟨w, hw, rfl⟩ := mapNext_eq_next.mp hu
  obtain ⟨acc, -, -, hf⟩ := fetchInstr_reads s.wakeIfAsked
  have hime : (fetchInstr s.wakeIfAsked).state.ime = s.ime := by simp [hf]
  have hd := decode_fetchInstr s.wakeIfAsked
  have he := encode_eq_of_decode_fetchFrom hd
  rw [State.fetchFrom_zero_bytes, State.wakeIfAsked_busValue, State.wakeIfAsked_pc] at he
  rw [State.dropInput_ime, ← hime]
  exact exec_ime_stepEnd (encode_of_decode hd).1 he hw

/-- Settles O22. -/
theorem imeStateMachine : Obligations.ImeStateMachine := by
  refine fun s t h => ⟨fun hs => step_ime_of_services hs h, fun ha => step_ime_of_awake ha h, fun hs ha => ?_⟩
  obtain ⟨u, hu, hime⟩ := step_of_not_awake hs ha
  cases h.symm.trans hu
  exact hime

end Sys2Proof.Machine
